-- ==== Sys2Proof/Word.lean ====
section
/-! DEFINITION. The word types of the engine: the octet, the command word, the two five-bit indexes, the
frame counter, and a bank of `2 ^ k` like registers. -/

namespace Sys2Proof

/-- One octet, bit 0 the least significant (R14). -/
abbrev Byte := BitVec 8

/-- A command: one 32-bit parallel word (R100). -/
abbrev CommandWord := BitVec 32

/-- A timeslot index 0..31 (R8, NUM_TS = 32), as wide as `R.CURSOR` (R42). -/
abbrev Timeslot := BitVec 5

/-- An external data channel id 0..31 (R10, NUM_CHANNELS = 32). -/
abbrev ChannelId := BitVec 5

/-- The frame counter's type: FC_WIDTH = 32 bits (R9, R43). -/
abbrev FrameCount := BitVec 32

/-- The response word: STATUS in bits 10..8, DATA in bits 7..0 (R120). -/
abbrev ResponseWord := BitVec 11

/-- A file of `2 ^ k` like registers or ROM entries, indexed by a `k`-bit number. -/
abbrev Bank (k : Nat) (α : Type) := Vector α (2 ^ k)

end Sys2Proof
end

