-- ==== Sys2Proof/Syntax.lean ====
section
/-! DEFINITION. The ten commands of spec/opcode_table.json (R101), one constructor each. A word that decodes to
none of them is ILLEGAL, which is no command of the table: `Machine.executeIllegal` runs it. -/

namespace Sys2Proof

/-- The framing mode of `FRM` and `R.FRAMING` (R35, R107): code 0 double-frame, code 1 multiframe. -/
inductive FramingMode where
  | doubleFrame
  | multiframe
deriving DecidableEq, Repr, Inhabited

/-- The commands, with the operands R102 to R110 give them. -/
inductive Instr where
  /-- SET_STRUCTURE (R200): `STRUCT`, 3 being reserved (R106). -/
  | setStructure (struct : BitVec 2)
  /-- SET_FRAMING (R205): `FRM` and the CRC-4 request `CRC4`. -/
  | setFraming (frm : FramingMode) (crc4 : Bool)
  /-- SET_SILENCE (R210): the silence byte `SIL`. -/
  | setSilence (sil : Byte)
  /-- BIND (R215): the timeslot index `TS`, 0..255, and the channel id `CHAN`. -/
  | bind (ts : BitVec 8) (chan : ChannelId)
  /-- INIT (R240). -/
  | init
  /-- NEXT_BYTE (R255). -/
  | nextByte
  /-- READ_STATUS (R281). -/
  | readStatus
  /-- READ_CURSOR (R282). -/
  | readCursor
  /-- READ_FRAME (R284): the octet number `K`. -/
  | readFrame (k : BitVec 2)
  /-- READ_TSMODE (R286): the timeslot index `TS5`. -/
  | readTsMode (ts5 : Timeslot)
deriving DecidableEq, Repr, Inhabited

end Sys2Proof
end

