-- ==== Sys2Proof/WellFormed.lean ====
section
/-! DEFINITION. Which terms of `Instr` are commands: the operand checks the encoding makes. -/

namespace Sys2Proof

/-- A command's operands are legal. `STRUCT = 3` is the only reserved operand value (R106, R115); every value of
the other fields is legal, an out-of-range `TS` being an execution error (R217). -/
def WellFormed : Instr → Bool
  | .setStructure struct => struct != 3#2
  | .setFraming _ _ => true
  | .setSilence _ => true
  | .bind _ _ => true
  | .init => true
  | .nextByte => true
  | .readStatus => true
  | .readCursor => true
  | .readFrame _ => true
  | .readTsMode _ => true

end Sys2Proof
end

