-- ==== Sys2Proof/Decode.lean ====
section
/-! DEFINITION. The decoder of R111, total on command words and refusing by name, and the encoder of the formats
R102 to R109. -/

namespace Sys2Proof

/-- Why a word decodes to ILLEGAL. -/
inductive IllegalReason where
  /-- `OP` selects no command (R113). -/
  | reservedOpcode
  /-- `SEL` selects no read under `OP = 0x7` (R113). -/
  | reservedSelector
  /-- A field that must be zero is not (R114). -/
  | reservedField
  /-- `STRUCT = 3` (R115). -/
  | reservedValue
deriving DecidableEq, Repr, Inhabited

/-- `FRM` read as a framing mode (R107). -/
def framingOfBit (b : Bool) : FramingMode := if b then .multiframe else .doubleFrame

/-- A framing mode's `FRM` bit (R107). -/
def bitOfFraming : FramingMode → Bool
  | .doubleFrame => false
  | .multiframe => true

/-- The field `OP = w[31:28]` (R101). -/
def opField (w : CommandWord) : BitVec 4 := w.extractLsb' 28 4

/-- The field `SEL = w[27:24]` of format R (R109). -/
def selField (w : CommandWord) : BitVec 4 := w.extractLsb' 24 4

/-- Format S (R103), with the reserved value of R115. -/
def decodeSetStructure (w : CommandWord) : Except IllegalReason Instr :=
  if w.extractLsb' 2 26 ≠ 0 then .error .reservedField
  else if w.extractLsb' 0 2 = 3#2 then .error .reservedValue
  else .ok (.setStructure (w.extractLsb' 0 2))

/-- Format F (R104). -/
def decodeSetFraming (w : CommandWord) : Except IllegalReason Instr :=
  if w.extractLsb' 2 26 ≠ 0 then .error .reservedField
  else .ok (.setFraming (framingOfBit (w.getLsbD 0)) (w.getLsbD 1))

/-- Format B (R105). -/
def decodeSetSilence (w : CommandWord) : Except IllegalReason Instr :=
  if w.extractLsb' 8 20 ≠ 0 then .error .reservedField
  else .ok (.setSilence (w.extractLsb' 0 8))

/-- Format T (R108). -/
def decodeBind (w : CommandWord) : Except IllegalReason Instr :=
  if w.extractLsb' 24 4 ≠ 0 ∨ w.extractLsb' 5 11 ≠ 0 then .error .reservedField
  else .ok (.bind (w.extractLsb' 16 8) (w.extractLsb' 0 5))

/-- Format N (R102), for the command `i` without operands. -/
def decodeNoOperand (i : Instr) (w : CommandWord) : Except IllegalReason Instr :=
  if w.extractLsb' 0 28 ≠ 0 then .error .reservedField else .ok i

/-- Format R (R109): `SEL` selects the read. -/
def decodeRead (w : CommandWord) : Except IllegalReason Instr :=
  if w.extractLsb' 5 19 ≠ 0 then .error .reservedField
  else match (selField w).toNat with
    | 0 => if w.extractLsb' 0 5 ≠ 0 then .error .reservedField else .ok .readStatus
    | 1 => if w.extractLsb' 0 5 ≠ 0 then .error .reservedField else .ok .readCursor
    | 2 => if w.extractLsb' 2 3 ≠ 0 then .error .reservedField else .ok (.readFrame (w.extractLsb' 0 2))
    | 3 => .ok (.readTsMode (w.extractLsb' 0 5))
    | _ => .error .reservedSelector

/-- The decoder: every word is one of the ten commands or ILLEGAL (R111). -/
def decode (w : CommandWord) : Except IllegalReason Instr :=
  match (opField w).toNat with
  | 1 => decodeSetStructure w
  | 2 => decodeSetFraming w
  | 3 => decodeSetSilence w
  | 4 => decodeBind w
  | 5 => decodeNoOperand .init w
  | 6 => decodeNoOperand .nextByte w
  | 7 => decodeRead w
  | _ => .error .reservedOpcode

/-- `OP` in `w[31:28]` (R101). -/
def opBits (op : BitVec 4) : CommandWord := op.setWidth 32 <<< 28

/-- `SEL` in `w[27:24]`, under `OP = 0x7` (R109). -/
def readBits (sel : BitVec 4) : CommandWord := opBits 7#4 ||| (sel.setWidth 32 <<< 24)

/-- The encoder: each command's word, every field in its place and every reserved field zero (R102 to R109). -/
def encode : Instr → CommandWord
  | .setStructure struct => opBits 1#4 ||| struct.setWidth 32
  | .setFraming frm crc4 =>
    opBits 2#4 ||| ((BitVec.ofBool crc4).setWidth 32 <<< 1) ||| (BitVec.ofBool (bitOfFraming frm)).setWidth 32
  | .setSilence sil => opBits 3#4 ||| sil.setWidth 32
  | .bind ts chan => opBits 4#4 ||| (ts.setWidth 32 <<< 16) ||| chan.setWidth 32
  | .init => opBits 5#4
  | .nextByte => opBits 6#4
  | .readStatus => readBits 0#4
  | .readCursor => readBits 1#4
  | .readFrame k => readBits 2#4 ||| k.setWidth 32
  | .readTsMode ts5 => readBits 3#4 ||| ts5.setWidth 32

/-- The command the decoder reads from a row of spec/opcode_table.json filled in as the bits of `w`. A command is
one 32-bit word (R100), so bits above the row's `nbits` are zero. -/
def decodeTableWord (nbits w : Nat) : Option Instr :=
  (decode (BitVec.ofNat 32 (w % 2 ^ nbits))).toOption

end Sys2Proof
end

