-- ==== Sys2Proof/Config.lean ====
section
/-! DEFINITION. What the spec leaves open: the command latency (R13) and the answers of the external data channels
(R20), constants without a body that nothing can evaluate. The fixed parameters NUM_TS, NUM_CHANNELS and FC_WIDTH
(R8, R9, R10) are the widths of Sys2Proof/Word.lean; the ROM contents (R11, R12) are state. -/

namespace Sys2Proof

/-- What a channel answers to `ChanOpen` (R16). -/
inductive OpenAnswer where
  | ok
  | fail
deriving DecidableEq, Repr, Inhabited

/-- Why a channel ends: the `reason` of `End(reason)` (R16). -/
inductive EndReason where
  | eof
  | error
deriving DecidableEq, Repr, Inhabited

/-- What a channel answers to `ChanRead`: one octet, or its end (R16). -/
inductive ReadAnswer where
  | data (b : Byte)
  | ended (reason : EndReason)
deriving DecidableEq, Repr, Inhabited

namespace Config

/-- CMD_LATENCY, left open by the spec: no rule depends on it, and no definition of the model reads it (R13, log
entry 11). -/
opaque cmdLatency : Nat

/-- FREE VALUE: the answer of channel `c` to a `ChanOpen` for which the environment has placed none, `n` being
the number of requests made to the channel before (R20, U1, log entry 3). -/
opaque openAnswer : (c : ChannelId) → (n : Nat) → OpenAnswer

/-- FREE VALUE: the answer of channel `c` to a `ChanRead` for which the environment has placed none, `n` being
the number of requests made to the channel before (R20, U2, log entry 3). -/
opaque readAnswer : (c : ChannelId) → (n : Nat) → ReadAnswer

end Config

end Sys2Proof
end

