-- ==== Sys2Proof/Machine/Regs.lean ====
section
/-! DEFINITION. The engine's registers (R33) with their reset values (R350), and its two ROMs (R75) with their
default contents (R142, R145). -/

namespace Sys2Proof.Machine

/-- `R.PHASE` (R40): code 0 CONFIG, 1 RUNNING, 2 FAILED; code 3 is never held. -/
inductive Phase where
  | config
  | running
  | failed
deriving DecidableEq, Repr, Inhabited

/-- `R.MODE[t]` (R39): code 0 UNBOUND, 1 SILENCE, 2 SYNC, 3 EXT. -/
inductive Mode where
  | unbound
  | silence
  | sync
  | ext
deriving DecidableEq, Repr, Inhabited

/-- The engine's registers: exactly the table of R33. -/
structure Regs where
  /-- `R.PHASE` (R40). -/
  phase : Phase
  /-- `R.FAIL_CAUSE`, 3 bits: the status code of the fatal error, 0 for NONE (R41). -/
  failCause : BitVec 3
  /-- `R.STRUCTURE`, 2 bits (R34). -/
  structureMode : BitVec 2
  /-- `R.FRAMING`, 1 bit (R35). -/
  framing : FramingMode
  /-- `R.CRC4_REQ`, 1 bit, read by no rule (R36). -/
  crc4Req : Bool
  /-- `R.SILENCE`, 8 bits (R37). -/
  silence : Byte
  /-- `R.BIND_VALID[t]` (R38). -/
  bindValid : Bank 5 Bool
  /-- `R.BIND_CHAN[t]` (R38). -/
  bindChan : Bank 5 ChannelId
  /-- `R.MODE[t]` (R39). -/
  mode : Bank 5 Mode
  /-- `R.CURSOR`, 5 bits (R42). -/
  cursor : Timeslot
  /-- `R.FRAME`, FC_WIDTH = 32 bits (R43). -/
  frame : FrameCount
  /-- `R.CHAN_OPEN[c]` (R44). -/
  chanOpen : Bank 5 Bool
deriving DecidableEq, Repr

/-- The constant state: the two ROMs, which no command writes and reset does not change (R33, R75). Their contents
are parameters of the model (R11, R12), so they stand here and not in the step. -/
structure Roms where
  /-- `SYNC_ROM[0..1]` (R141). -/
  sync : Bank 1 Byte
  /-- `ALIGN_ROM[0..15]` (R144). -/
  align : Bank 4 Byte
deriving DecidableEq, Repr

/-- The registers after reset (R33, R350). -/
def Regs.reset : Regs where
  phase := .config
  failCause := 0#3
  structureMode := 0#2
  framing := .doubleFrame
  crc4Req := false
  silence := 0x00#8
  bindValid := Vector.replicate 32 false
  bindChan := Vector.replicate 32 0#5
  mode := Vector.replicate 32 .unbound
  cursor := 0#5
  frame := 0#32
  chanOpen := Vector.replicate 32 false

/-- The default contents of SYNC_ROM: the FAS word, then the NFAS word (R11, R142, log entry 6). -/
def defaultSyncRom : Bank 1 Byte := #v[0x1B#8, 0x5F#8]

/-- The default contents of ALIGN_ROM: the multiframe alignment bits of frames 5, 9 and 11 (R12, R145, log
entry 7). -/
def defaultAlignRom : Bank 4 Byte :=
  #v[0x00#8, 0x00#8, 0x00#8, 0x00#8, 0x00#8, 0x80#8, 0x00#8, 0x00#8,
     0x00#8, 0x80#8, 0x00#8, 0x80#8, 0x00#8, 0x00#8, 0x00#8, 0x00#8]

end Sys2Proof.Machine
end

