-- ==== Sys2Proof/Machine/State.lean ====
section
/-! DEFINITION. The state of the machine as plain data: the engine's registers (R33), its two ROMs (R75) and, as
the model's own fields, the environment it talks to (R19): the host's inputs still to come, what each external
channel will answer, and the external trace (R23). The faults and the refusals stand here too. -/

namespace Sys2Proof.Machine

/-- The reason a `Diag` event carries (R178, R181). -/
inductive DiagReason where
  | eof
  | error
  | closed
deriving DecidableEq, Repr, Inhabited

/-- One event of the external trace (R23). -/
inductive Event where
  /-- `Cmd(w)`: the host issues the command word `w`. -/
  | cmd (w : CommandWord)
  /-- `Resp(status, data)`, as the response word of R120. -/
  | resp (r : ResponseWord)
  /-- `ChanOpen(c)` and its answer. -/
  | chanOpen (c : ChannelId) (a : OpenAnswer)
  /-- `ChanRead(c)` and its answer. -/
  | chanRead (c : ChannelId) (a : ReadAnswer)
  /-- `ChanClose(c)`. -/
  | chanClose (c : ChannelId)
  /-- `Diag(t, c, reason)`. -/
  | diag (t : Timeslot) (c : ChannelId) (reason : DiagReason)
deriving DecidableEq, Repr, Inhabited

/-- What the host sends the engine (R366): a command word, or the reset input (R350). -/
inductive HostInput where
  | command (w : CommandWord)
  | reset
deriving DecidableEq, Repr, Inhabited

/-- What one external data channel will answer (the model's own field, log entry 3): the answers its owner has
placed, in the order they will be given, and the number of requests made to it so far, which indexes the free
answers given once no placed one is left. -/
structure ChannelFeed where
  /-- Answers to the next `ChanOpen` requests. -/
  opens : List OpenAnswer
  /-- Answers to the next `ChanRead` requests. -/
  reads : List ReadAnswer
  /-- Requests made so far. -/
  requests : Nat
deriving DecidableEq, Repr, Inhabited

/-- The engine's environment (R19), the model's own fields (log entries 1, 3, 5). -/
structure Env where
  /-- What the host sends next, first input first. -/
  inputs : List HostInput
  /-- The external data channels. -/
  channels : Bank 5 ChannelFeed
  /-- The external trace so far, oldest event first (R23). -/
  trace : List Event
deriving DecidableEq, Repr

/-- The state of the machine. -/
structure State where
  regs : Regs
  roms : Roms
  env : Env
deriving DecidableEq, Repr

/-- The machine at power-up, which is the reset state (R351): the registers of R33, the default ROM contents
(R142, R145), and an environment in which nothing has happened yet (log entry 1). -/
def State.reset : State where
  regs := Regs.reset
  roms :=
    { sync := defaultSyncRom
      align := defaultAlignRom }
  env :=
    { inputs := []
      channels := Vector.replicate 32
        { opens := []
          reads := []
          requests := 0 }
      trace := [] }

/-- The faults a step may end in. -/
inductive Fault where
  /-- Unbound timeslot reached: NEXT_BYTE in RUNNING at a timeslot whose mode is UNBOUND, a case the spec calls
  unreachable and lets a model make a fault (R175, U4, log entry 9). Raised by `produce`. Safe: no run reaches it. -/
  | unboundTimeslot
deriving DecidableEq, Repr, Inhabited

/-- The refusals a step may end in. -/
inductive Refusal where
  /-- The ALIGN_ROM parameter breaks `ALIGN_ROM[i] & 0x7F = 0`; the spec has a model refuse it before any command
  (R144, U9, D31). Raised by `step`. Safe: the spec excludes such contents. -/
  | alignRomParameter
  /-- No meaning for the command yet. Raised by `exec` alone, for an arm not yet written: every arm has its meaning,
  so no step answers it. Safe. -/
  | notModelled (mnemonic : String)
deriving DecidableEq, Repr, Inhabited

end Sys2Proof.Machine
end

