-- ==== Sys2Proof/Machine/Flags.lean ====
section
/-! DEFINITION. The engine has no condition flags (R32). In their place stand the status codes and the response
word (R120, R121), and the codes that the reads give of `R.PHASE` and `R.MODE`. -/

namespace Sys2Proof.Machine

/-- The status of a command (R121); code 7 is never produced. -/
inductive Status where
  | ok
  | errIllegal
  | errPhase
  | errRange
  | errDup
  | errOpen
  | errFailed
deriving DecidableEq, Repr, Inhabited

/-- STATUS codes (R121). -/
def statusCode : Status → BitVec 3
  | .ok => 0#3
  | .errIllegal => 1#3
  | .errPhase => 2#3
  | .errRange => 3#3
  | .errDup => 4#3
  | .errOpen => 5#3
  | .errFailed => 6#3

/-- The response word: `RESP[10:8] = STATUS`, `RESP[7:0] = DATA` (R120). -/
def respWord (status : Status) (data : Byte) : ResponseWord :=
  ((statusCode status).setWidth 11 <<< 8) ||| data.setWidth 11

/-- `R.PHASE` as its two bits (R40). -/
def phaseCode : Phase → BitVec 2
  | .config => 0#2
  | .running => 1#2
  | .failed => 2#2

/-- `R.MODE[t]` as its two bits (R39). -/
def modeCode : Mode → BitVec 2
  | .unbound => 0#2
  | .silence => 1#2
  | .sync => 2#2
  | .ext => 3#2

/-- DATA of READ_STATUS: `(R.PHASE << 6) | (R.FAIL_CAUSE << 3)` (R281). -/
def statusData (r : Regs) : Byte :=
  ((phaseCode r.phase).setWidth 8 <<< 6) ||| (r.failCause.setWidth 8 <<< 3)

end Sys2Proof.Machine
end

