-- ==== Sys2Proof/Machine/Operands.lean ====
section
/-! DEFINITION. How operands reach state: reading and writing one entry of a bank, the indexes in ascending order,
and the forms in which an operand names a timeslot. -/

namespace Sys2Proof.Machine

/-- Entry `i` of a bank: `R.name[i]`, `RomRead(ROM, i)` (R16). A `k`-bit index is always in range (R71). -/
def readBank {k : Nat} {α : Type} (v : Bank k α) (i : BitVec k) : α := v[i.toNat]'i.isLt

/-- `R.name[i] <- x` (R16). -/
def writeBank {k : Nat} {α : Type} (v : Bank k α) (i : BitVec k) (x : α) : Bank k α := v.set i.toNat x i.isLt

/-- The indexes 0..31 in ascending order: `for t in 0 .. 31` (R16). -/
def ascending : List (BitVec 5) := (List.range 32).map (BitVec.ofNat 5)

/-- `TS` is a timeslot index: below 32 (R110, R217). -/
def tsInRange (ts : BitVec 8) : Bool := ts.toNat < 32

/-- `TS`, in range, as a timeslot index (R110). -/
def tsIndex (ts : BitVec 8) : Timeslot := ts.setWidth 5

/-- Octet `K` of the frame counter, octet 0 the least significant: `v[8*K+7 : 8*K]` (R284). -/
def frameOctet (f : FrameCount) (k : BitVec 2) : Byte := f.extractLsb' (8 * k.toNat) 8

end Sys2Proof.Machine
end

