-- ==== Sys2Proof/Machine/Ops.lean ====
section
/-! DEFINITION. The operations every command is written over: recording an event, responding, the phase check,
the requests to an external channel, entering FAILED, and reset, the only way out of it. -/

namespace Sys2Proof.Machine

/-- The outcome of a step of this machine. -/
abbrev Result := Host.Outcome State Fault Refusal

/-- Record one event of the external trace, after all earlier ones (R23, R82). -/
def emit (e : Event) (s : State) : State :=
  { s with env := { s.env with trace := s.env.trace ++ [e] } }

/-- `respond(status, data)`: the command's last effect (R16, R120). -/
def respond (status : Status) (data : Byte) (s : State) : Result :=
  .next (emit (.resp (respWord status data)) s)

/-- The phase check of every command but the reads: ERR_FAILED in FAILED, else ERR_PHASE in a phase other than the
one that admits the command, else the command's own work `body` (R303, R304, R305). -/
def inPhase (admitting : Phase) (body : State → Result) (s : State) : Result :=
  if s.regs.phase = .failed then respond .errFailed 0#8 s
  else if s.regs.phase ≠ admitting then respond .errPhase 0#8 s
  else body s

/-- Fatal error entry: `fatal(code)` for ERR_RANGE, ERR_DUP and ERR_OPEN (R310). -/
def fatal (code : Status) (s : State) : Result :=
  respond code 0#8 { s with regs := { s.regs with phase := .failed, failCause := statusCode code } }

/-- Reset, the only return from FAILED (R311): close every open channel in ascending order, then give every
register its reset value. The ROMs and the channels' own positions stay as they are, and there is no response
(R350, R352). -/
def applyReset (s : State) : State :=
  { ascending.foldl (fun u c => if readBank u.regs.chanOpen c then emit (.chanClose c) u else u) s with
    regs := Regs.reset }

/-- The word decodes to ILLEGAL: ERR_ILLEGAL and nothing else, in every phase (R116). -/
def executeIllegal (s : State) : Result := respond .errIllegal 0#8 s

/-- `R.CHAN_OPEN[c] <- b`. -/
def setChanOpen (c : ChannelId) (b : Bool) (s : State) : State :=
  { s with regs := { s.regs with chanOpen := writeBank s.regs.chanOpen c b } }

/-- `R.MODE[t] <- m`. -/
def setMode (t : Timeslot) (m : Mode) (s : State) : State :=
  { s with regs := { s.regs with mode := writeBank s.regs.mode t m } }

/-- Channel `c` as the environment holds it. -/
def feed (c : ChannelId) (s : State) : ChannelFeed := readBank s.env.channels c

/-- What channel `c` answers to the next `ChanOpen`: the answer placed for it, else a free one (R20, log entry 3). -/
def openAnswer (c : ChannelId) (s : State) : OpenAnswer :=
  (feed c s).opens.headD (Config.openAnswer c (feed c s).requests)

/-- What channel `c` answers to the next `ChanRead`: the answer placed for it, else a free one (R20, log entry 3). -/
def readAnswer (c : ChannelId) (s : State) : ReadAnswer :=
  (feed c s).reads.headD (Config.readAnswer c (feed c s).requests)

/-- Put channel `c` at `x`. -/
def setFeed (c : ChannelId) (x : ChannelFeed) (s : State) : State :=
  { s with env := { s.env with channels := writeBank s.env.channels c x } }

/-- A channel once it has answered a `ChanOpen`. -/
def afterOpen (x : ChannelFeed) : ChannelFeed :=
  { x with opens := x.opens.tail, requests := x.requests + 1 }

/-- A channel once it has answered a `ChanRead`: the octet it gave is consumed (R79 (a)). -/
def afterRead (x : ChannelFeed) : ChannelFeed :=
  { x with reads := x.reads.tail, requests := x.requests + 1 }

/-- `ChanOpen(c)`: the state once the channel has answered `openAnswer c s` (R16). -/
def requestOpen (c : ChannelId) (s : State) : State :=
  emit (.chanOpen c (openAnswer c s)) (setFeed c (afterOpen (feed c s)) s)

/-- `ChanRead(c)`: the state once the channel has answered `readAnswer c s` (R16). -/
def requestRead (c : ChannelId) (s : State) : State :=
  emit (.chanRead c (readAnswer c s)) (setFeed c (afterRead (feed c s)) s)

/-- `ChanClose(c)` and `R.CHAN_OPEN[c] <- 0` (R178, R244). -/
def closeChannel (c : ChannelId) (s : State) : State :=
  setChanOpen c false (emit (.chanClose c) s)

end Sys2Proof.Machine
end

