-- ==== Sys2Proof/Machine/ConfigCommands.lean ====
section
/-! DEFINITION. The configuration commands SET_STRUCTURE, SET_FRAMING, SET_SILENCE and BIND (R200 to R220). -/

namespace Sys2Proof.Machine

/-- SET_STRUCTURE (R200). -/
def execSetStructure (struct : BitVec 2) (s : State) : Result :=
  inPhase .config (fun s => respond .ok 0#8 { s with regs := { s.regs with structureMode := struct } }) s

/-- SET_FRAMING (R205). -/
def execSetFraming (frm : FramingMode) (crc4 : Bool) (s : State) : Result :=
  inPhase .config
    (fun s => respond .ok 0#8 { s with regs := { s.regs with framing := frm, crc4Req := crc4 } }) s

/-- SET_SILENCE (R210). -/
def execSetSilence (sil : Byte) (s : State) : Result :=
  inPhase .config (fun s => respond .ok 0#8 { s with regs := { s.regs with silence := sil } }) s

/-- Bind timeslot `t` to channel `c`: the two writes of R215. -/
def setBinding (t : Timeslot) (c : ChannelId) (s : State) : State :=
  { s with
    regs := { s.regs with
      bindValid := writeBank s.regs.bindValid t true
      bindChan := writeBank s.regs.bindChan t c } }

/-- BIND (R215): ERR_RANGE before ERR_DUP, both fatal (R217, R218, R305). -/
def execBind (ts : BitVec 8) (chan : ChannelId) (s : State) : Result :=
  inPhase .config
    (fun s =>
      if tsInRange ts then
        if readBank s.regs.bindValid (tsIndex ts) then fatal .errDup s
        else respond .ok 0#8 (setBinding (tsIndex ts) chan s)
      else fatal .errRange s) s

end Sys2Proof.Machine
end

