-- ==== Sys2Proof/Machine/Framing.lean ====
section
/-! DEFINITION. The framing tables block: the framing function over the two ROMs (R140 to R155). -/

namespace Sys2Proof.Machine

/-- G.704 bit `k`, 1 to 8, of an octet: octet bit `8 - k` (R15). -/
def g704Bit (k : Nat) (b : Byte) : Bool := b.getLsbD (8 - k)

/-- Every ALIGN_ROM entry has its low 7 bits zero (R144). -/
def alignRomLegal (rom : Bank 4 Byte) : Bool := rom.toList.all fun e => e &&& 0x7F#8 == 0#8

/-- The sync word of frame `f`: FAS on even frames, NFAS on odd frames (R141). -/
def syncWord (roms : Roms) (f : FrameCount) : Byte := readBank roms.sync (f.extractLsb' 0 1)

/-- The multiframe alignment bit of frame `f`, in octet bit 7 (R144). -/
def alignWord (roms : Roms) (f : FrameCount) : Byte := readBank roms.align (f.extractLsb' 0 4)

/-- `framing(f, m)`: the octet of timeslot 0 (R150). -/
def framing (roms : Roms) (f : FrameCount) (m : FramingMode) : Byte :=
  match m with
  | .doubleFrame => syncWord roms f
  | .multiframe => syncWord roms f ||| alignWord roms f

end Sys2Proof.Machine
end

