-- ==== Sys2Proof/Machine/Source.lean ====
section
/-! DEFINITION. The timeslot sources, the degrade to silence, and the source selector (R170 to R178). -/

namespace Sys2Proof.Machine

/-- The silence source: `silence()` (R172). -/
def silenceOctet (s : State) : Byte := s.regs.silence

/-- The sync source: `sync(f)` (R173). -/
def syncOctet (f : FrameCount) (s : State) : Byte := framing s.roms f s.regs.framing

/-- The diagnostic reason of a channel's end (R181). -/
def diagReason : EndReason → DiagReason
  | .eof => .eof
  | .error => .error

/-- `degrade(t, c, reason)`: timeslot `t` becomes SILENCE for good, an open channel is closed, one diagnostic is
recorded, and the octet is the silence byte (R178). -/
def degrade (t : Timeslot) (c : ChannelId) (reason : DiagReason) (s : State) : Byte × State :=
  let s₁ := setMode t .silence s
  let s₂ := if readBank s₁.regs.chanOpen c then closeChannel c s₁ else s₁
  let s₃ := emit (.diag t c reason) s₂
  (silenceOctet s₃, s₃)

/-- The external data source: `ext(t)` (R176); a closed channel is not asked (R177). -/
def extOctet (t : Timeslot) (s : State) : Byte × State :=
  let c := readBank s.regs.bindChan t
  if readBank s.regs.chanOpen c then
    match readAnswer c s with
    | .data b => (b, requestRead c s)
    | .ended reason => degrade t c (diagReason reason) (requestRead c s)
  else degrade t c .closed s

/-- The source selector: `produce(t, f)` (R170); its UNBOUND case is a fault (R175). -/
def produce (t : Timeslot) (f : FrameCount) (s : State) : Except Fault (Byte × State) :=
  match readBank s.regs.mode t with
  | .silence => .ok (silenceOctet s, s)
  | .sync => .ok (syncOctet f s, s)
  | .ext => .ok (extOctet t s)
  | .unbound => .error .unboundTimeslot

end Sys2Proof.Machine
end

