-- ==== Sys2Proof/Machine/EngineCommands.lean ====
section
/-! DEFINITION. The engine commands INIT and NEXT_BYTE (R240 to R260). -/

namespace Sys2Proof.Machine

/-- What INIT's opening loop comes to. -/
inductive Opening where
  /-- Every distinct bound channel answered OK. -/
  | allOpen (s : State)
  /-- A channel answered FAIL; `opened` are the channels opened before it, in order. -/
  | failedAfter (opened : List ChannelId) (s : State)

/-- INIT step 1: visit the timeslots in order and open each bound channel not yet in `opened`, stopping at the
first that answers FAIL (R240, R241, R242, R244). -/
def openBound : List Timeslot → List ChannelId → State → Opening
  | [], _, s => .allOpen s
  | t :: ts, opened, s =>
    let c := readBank s.regs.bindChan t
    if readBank s.regs.bindValid t then
      if c ∈ opened then openBound ts opened s
      else match openAnswer c s with
        | .fail => .failedAfter opened (requestOpen c s)
        | .ok => openBound ts (opened ++ [c]) (setChanOpen c true (requestOpen c s))
    else openBound ts opened s

/-- Close the channels of a failed INIT in the order they were opened (R244). -/
def closeAll (opened : List ChannelId) (s : State) : State :=
  opened.foldl (fun u c => closeChannel c u) s

/-- The mode INIT gives timeslot `t`: EXT if bound, else SYNC for timeslot 0 of a structured engine, else SILENCE
(R245, R246). -/
def assignedMode (r : Regs) (t : Timeslot) : Mode :=
  if readBank r.bindValid t then .ext
  else if t = 0#5 ∧ r.structureMode ≠ 0#2 then .sync
  else .silence

/-- INIT step 2: every timeslot gets its mode (R245). -/
def assignModes (s : State) : State :=
  ascending.foldl (fun u t => setMode t (assignedMode u.regs t) u) s

/-- INIT step 3: start the counters and run (R247, R249). -/
def startRunning (s : State) : State :=
  { s with regs := { s.regs with cursor := 0#5, frame := 0#32, phase := .running } }

/-- INIT (R240); a failed open undoes the opens and is fatal (R244). -/
def execInit (s : State) : Result :=
  inPhase .config
    (fun s =>
      match openBound ascending [] s with
      | .allOpen s' => respond .ok 0#8 (startRunning (assignModes s'))
      | .failedAfter opened s' => fatal .errOpen (closeAll opened s')) s

/-- The counters after the octet of timeslot `t` in frame `f`: the cursor wraps at 32, and its wrap advances the
frame counter modulo `2 ^ FC_WIDTH` (R255). -/
def advance (t : Timeslot) (f : FrameCount) (s : State) : State :=
  { s with
    regs := { s.regs with
      cursor := t + 1#5
      frame := if t = 31#5 then f + 1#32 else s.regs.frame } }

/-- NEXT_BYTE (R255): the octet comes from the counters as they stood, which then advance (R256). -/
def execNextByte (s : State) : Result :=
  inPhase .running
    (fun s =>
      match produce s.regs.cursor s.regs.frame s with
      | .ok (b, s') => respond .ok b (advance s.regs.cursor s.regs.frame s')
      | .error e => .fault e) s

end Sys2Proof.Machine
end

