-- ==== Sys2Proof/Machine/ReadCommands.lean ====
section
/-! DEFINITION. The read commands READ_STATUS, READ_CURSOR, READ_FRAME and READ_TSMODE (R280 to R287): OK in every
phase, without any effect but the response. -/

namespace Sys2Proof.Machine

/-- READ_STATUS (R281). -/
def execReadStatus (s : State) : Result := respond .ok (statusData s.regs) s

/-- READ_CURSOR (R282). -/
def execReadCursor (s : State) : Result := respond .ok (s.regs.cursor.setWidth 8) s

/-- READ_FRAME (R284). -/
def execReadFrame (k : BitVec 2) (s : State) : Result := respond .ok (frameOctet s.regs.frame k) s

/-- READ_TSMODE (R286). -/
def execReadTsMode (ts5 : Timeslot) (s : State) : Result :=
  respond .ok ((modeCode (readBank s.regs.mode ts5)).setWidth 8) s

end Sys2Proof.Machine
end

