-- ==== Sys2Proof/Machine/Dispatch.lean ====
section
/-! DEFINITION. The dispatch of a decoded command to its meaning (R111). -/

namespace Sys2Proof.Machine

def exec (i : Instr) (s : State) : Host.Outcome State Fault Refusal :=
  match i with
  | .setStructure struct => Sys2Proof.Machine.execSetStructure struct s
  | .setFraming frm crc4 => Sys2Proof.Machine.execSetFraming frm crc4 s
  | .setSilence sil => Sys2Proof.Machine.execSetSilence sil s
  | .bind ts chan => Sys2Proof.Machine.execBind ts chan s
  | .init => Sys2Proof.Machine.execInit s
  | .nextByte => Sys2Proof.Machine.execNextByte s
  | .readStatus => Sys2Proof.Machine.execReadStatus s
  | .readCursor => Sys2Proof.Machine.execReadCursor s
  | .readFrame k => Sys2Proof.Machine.execReadFrame k s
  | .readTsMode ts5 => Sys2Proof.Machine.execReadTsMode ts5 s

end Sys2Proof.Machine
end

