-- ==== Sys2Proof/Machine/Execute.lean ====
section
/-! DEFINITION. What one input of the host makes the engine do: accept a command word, decode it and run it, or
reset (R18, R350). -/

namespace Sys2Proof.Machine

/-- The host issues the command word `w`: the event `Cmd(w)` (R23). -/
def acceptCommand (w : CommandWord) (s : State) : State := emit (.cmd w) s

/-- Decode a command word and run it; an undecodable word is ILLEGAL (R111, R116). -/
def executeWord (w : CommandWord) (s : State) : Result :=
  match decode w with
  | .ok i => exec i s
  | .error _ => executeIllegal s

/-- One input of the host, run to its end (R17, R351). -/
def runInput (input : HostInput) (s : State) : Result :=
  match input with
  | .command w => executeWord w (acceptCommand w s)
  | .reset => .next (applyReset s)

/-- The state once the host's first input has been taken from those still to come. -/
def dropInput (s : State) : State :=
  { s with env := { s.env with inputs := s.env.inputs.tail } }

/-- The word of a table row of `nbits` bits: every bit above them zero (R100). -/
def tableWord (nbits w : Nat) : CommandWord := BitVec.ofNat 32 (w % 2 ^ nbits)

/-- `s` with `input` as the next thing the host sends. -/
def queueInput (input : HostInput) (s : State) : State :=
  { s with env := { s.env with inputs := input :: s.env.inputs } }

end Sys2Proof.Machine
end

