-- ==== Sys2Proof/Machine/Step.lean ====
section
/-! DEFINITION. One step of the machine: the execution of one input of the host (R17, R18). -/

namespace Sys2Proof.Machine

/-- One step: an ALIGN_ROM that breaks R144 is refused before anything else (D31); with no input the engine is
idle and keeps all its state (R325); else the host's next input is taken and run. -/
def step (s : State) : Host.Outcome State Fault Refusal :=
  if alignRomLegal s.roms.align then
    match s.env.inputs with
    | [] => .next s
    | input :: _ => runInput input (dropInput s)
  else .refused .alignRomParameter

/-- `s` with a command word as the host's next input (the engine fetches nothing: R31; log entry 1). -/
def State.withFetchWord (s : State) (nbits w : Nat) : State := queueInput (.command (tableWord nbits w)) s

end Sys2Proof.Machine
end

