-- ==== Sys2Proof/Machine/Assembler.lean ====
section
/-! DEFINITION. The assembler syntax of R119 over lines already split into a mnemonic and operands (log entry 17):
which command a line stands for, and its word. -/

namespace Sys2Proof.Machine

/-- One operand of a line: a number, decimal or hexadecimal in the text, or a name. -/
inductive AsmOperand where
  | number (n : Nat)
  | name (x : String)
deriving DecidableEq, Repr, Inhabited

/-- One command of a listing (R119): its mnemonic, and its operands in order. -/
structure AsmLine where
  mnemonic : String
  operands : List AsmOperand
deriving DecidableEq, Repr, Inhabited

/-- `n` as a `k`-bit operand; out of the field's range it is refused (R119). -/
def asmField (k n : Nat) : Option (BitVec k) := if n < 2 ^ k then some (BitVec.ofNat k n) else none

/-- The operand of SET_STRUCTURE: a name, or a number 0..2 (R119). -/
def asmStructure : AsmOperand → Option (BitVec 2)
  | .name x =>
    if x = "unstructured" then some 0#2
    else if x = "pcm31" then some 1#2
    else if x = "pcm30" then some 2#2
    else none
  | .number n => if n ≤ 2 then some (BitVec.ofNat 2 n) else none

/-- The first operand of SET_FRAMING (R119). -/
def asmFraming : AsmOperand → Option FramingMode
  | .name x =>
    if x = "double" then some .doubleFrame
    else if x = "multi" then some .multiframe
    else none
  | .number _ => none

/-- The command whose mnemonic stands with the operands, if the operands are in range (R119). -/
def asmCommand (l : AsmLine) : Option Instr :=
  if l.mnemonic = "SET_STRUCTURE" then
    match l.operands with
    | [a] => (asmStructure a).map .setStructure
    | _ => none
  else if l.mnemonic = "SET_FRAMING" then
    match l.operands with
    | [a] => (asmFraming a).map (.setFraming · false)
    | [a, .name x] => if x = "crc4" then (asmFraming a).map (.setFraming · true) else none
    | _ => none
  else if l.mnemonic = "SET_SILENCE" then
    match l.operands with
    | [.number b] => (asmField 8 b).map .setSilence
    | _ => none
  else if l.mnemonic = "BIND" then
    match l.operands with
    | [.number ts, .number chan] => (asmField 8 ts).bind fun t => (asmField 5 chan).map (.bind t)
    | _ => none
  else if l.mnemonic = "INIT" then
    if l.operands = [] then some .init else none
  else if l.mnemonic = "NEXT_BYTE" then
    if l.operands = [] then some .nextByte else none
  else if l.mnemonic = "READ_STATUS" then
    if l.operands = [] then some .readStatus else none
  else if l.mnemonic = "READ_CURSOR" then
    if l.operands = [] then some .readCursor else none
  else if l.mnemonic = "READ_FRAME" then
    match l.operands with
    | [.number k] => (asmField 2 k).map .readFrame
    | _ => none
  else if l.mnemonic = "READ_TSMODE" then
    match l.operands with
    | [.number ts] => (asmField 5 ts).map .readTsMode
    | _ => none
  else none

/-- The word of a line; a line that is no command, or whose operand is out of range, has none (R119). -/
def assemble (l : AsmLine) : Option CommandWord := (asmCommand l).map encode

end Sys2Proof.Machine
end

