-- ==== Sys2Proof/Safety.lean ====
section
/-! DEFINITION. The terms the claims use: the invariants of R46, the bound channels in the order INIT meets them,
the lines of R119 without numbers, and runs of NEXT_BYTE commands with the octets they give. -/

namespace Sys2Proof.Machine

/-- What holds in every reachable state: R46 (a) to (g), the counters of a FAILED engine (R282, log entry 13), and
a legal ALIGN_ROM (R144). R46 (h) speaks of two states and is stated of the step. -/
structure Inv (s : State) : Prop where
  /-- R46 (a). -/
  configClean : s.regs.phase = .config →
    (∀ t, readBank s.regs.mode t = .unbound) ∧ s.regs.cursor = 0#5 ∧ s.regs.frame = 0#32 ∧
      ∀ c, readBank s.regs.chanOpen c = false
  /-- R46 (b). -/
  runningAssigned : s.regs.phase = .running → ∀ t, readBank s.regs.mode t ≠ .unbound
  /-- R46 (c). -/
  syncOnlyFirst : ∀ t, readBank s.regs.mode t = .sync → t = 0#5 ∧ s.regs.structureMode ≠ 0#2
  /-- R46 (d). -/
  extBound : ∀ t, readBank s.regs.mode t = .ext → readBank s.regs.bindValid t = true
  /-- R46 (e). -/
  openServes : ∀ c, readBank s.regs.chanOpen c = true →
    s.regs.phase = .running ∧ ∃ t, readBank s.regs.mode t = .ext ∧ readBank s.regs.bindChan t = c
  /-- R46 (f), first half. -/
  failedClean : s.regs.phase = .failed →
    (∀ t, readBank s.regs.mode t = .unbound) ∧ (∀ c, readBank s.regs.chanOpen c = false) ∧
      (s.regs.failCause = 3#3 ∨ s.regs.failCause = 4#3 ∨ s.regs.failCause = 5#3)
  /-- R46 (f), second half. -/
  causeOnlyFailed : s.regs.phase ≠ .failed → s.regs.failCause = 0#3
  /-- R46 (g). -/
  structureLegal : s.regs.structureMode ≠ 3#2
  /-- R282: the cursor reads 0 in FAILED, as the frame counter does. -/
  failedCounters : s.regs.phase = .failed → s.regs.cursor = 0#5 ∧ s.regs.frame = 0#32
  /-- R144. -/
  alignLegal : alignRomLegal s.roms.align = true

/-- The channels bound to at least one timeslot, each once, in the order of the lowest timeslot bound to it (R241,
R242). -/
def boundChannels (r : Regs) : List ChannelId :=
  ((ascending.filter fun t => readBank r.bindValid t).map fun t => readBank r.bindChan t).eraseDups

/-- Timeslot `t` takes its octets from channel `c`. -/
def servedBy (r : Regs) (c : ChannelId) (t : Timeslot) : Bool :=
  readBank r.mode t == .ext && readBank r.bindChan t == c

/-- `n` NEXT_BYTE commands in a row. -/
def nextBytes : Nat → State → Result
  | 0, s => .next s
  | n + 1, s =>
    match exec .nextByte s with
    | .next t => nextBytes n t
    | o => o

/-- DATA of the last response in the trace. -/
def lastData (s : State) : Byte :=
  match s.env.trace.getLast? with
  | some (.resp r) => r.setWidth 8
  | _ => 0#8

/-- The octets of `n` NEXT_BYTE commands in a row, each with the timeslot it belongs to. -/
def octets : Nat → State → List (Timeslot × Byte)
  | 0, _ => []
  | n + 1, s =>
    match exec .nextByte s with
    | .next t => (s.regs.cursor, lastData t) :: octets n t
    | _ => []

/-- The response events among `es`. -/
def responses (es : List Event) : List Event :=
  es.filter fun e => match e with
    | .resp _ => true
    | _ => false

/-- `e` is a diagnostic event of timeslot `t`. -/
def isDiagOf (t : Timeslot) (e : Event) : Bool :=
  match e with
  | .diag u _ _ => u == t
  | _ => false

/-- A step's outcome with `g` applied to the next state: for comparing two runs but for a part `g` hides. -/
def mapNext (g : State → State) : Result → Result
  | .next s => .next (g s)
  | .fault r => .fault r
  | .refused r => .refused r

/-- `s` with `R.CRC4_REQ = b`. -/
def withCrc4Req (b : Bool) (s : State) : State := { s with regs := { s.regs with crc4Req := b } }

/-- `s` with `R.STRUCTURE = x`. -/
def withStructure (x : BitVec 2) (s : State) : State := { s with regs := { s.regs with structureMode := x } }

/-- The host's next input is the command `i`. -/
def issues (s : State) (i : Instr) : Prop :=
  ∃ w rest, s.env.inputs = .command w :: rest ∧ decode w = .ok i

/-- The host's next input is the reset input. -/
def resets (s : State) : Prop := s.env.inputs.head? = some .reset

/-- A command that changes no register and asks no channel: the reads (R280). -/
def isRead : Instr → Bool
  | .readStatus => true
  | .readCursor => true
  | .readFrame _ => true
  | .readTsMode _ => true
  | .setStructure _ => false
  | .setFraming _ _ => false
  | .setSilence _ => false
  | .bind _ _ => false
  | .init => false
  | .nextByte => false

/-- The lines of R119's table in which no number stands, each with its word: `STRUCT`, `CRC4` and `FRM` in their
places under the opcode (R103, R104), or the whole word where R119 gives it. -/
def asmRowsWithoutNumber : List (AsmLine × CommandWord) :=
  [(⟨"SET_STRUCTURE", [.name "unstructured"]⟩, 0x10000000#32),
    (⟨"SET_STRUCTURE", [.name "pcm31"]⟩, 0x10000001#32),
    (⟨"SET_STRUCTURE", [.name "pcm30"]⟩, 0x10000002#32),
    (⟨"SET_FRAMING", [.name "double"]⟩, 0x20000000#32),
    (⟨"SET_FRAMING", [.name "multi"]⟩, 0x20000001#32),
    (⟨"SET_FRAMING", [.name "double", .name "crc4"]⟩, 0x20000002#32),
    (⟨"SET_FRAMING", [.name "multi", .name "crc4"]⟩, 0x20000003#32),
    (⟨"INIT", []⟩, 0x50000000#32),
    (⟨"NEXT_BYTE", []⟩, 0x60000000#32),
    (⟨"READ_STATUS", []⟩, 0x70000000#32),
    (⟨"READ_CURSOR", []⟩, 0x71000000#32)]

end Sys2Proof.Machine
end

