-- ==== Sys2Proof/Certificates/Slice0/Obligations.lean ====
section
/-! DEFINITION. The statements for the provers, from the spec's numbered rules. -/

open Sys2Proof Sys2Proof.Machine

/-! ## Encoding -/

/-- Decoding the word of a well-formed command gives the command back, every operand at every value (R102 to
R111). -/
def Obligations.EncodeThenDecodeGivesTheCommandBack : Prop :=
  ∀ i : Instr, WellFormed i = true → decode (encode i) = .ok i

/-- A word that decodes is the word of what it decodes to, and that is well-formed: no bit of it is dropped (R111,
R114). -/
def Obligations.DecodedWordIsItsEncoding : Prop :=
  ∀ (w : CommandWord) (i : Instr), decode w = .ok i → WellFormed i = true ∧ encode i = w

/-- R113: the reserved opcodes, and the reserved selectors under `OP = 0x7`, decode to ILLEGAL. -/
def Obligations.ReservedOpcodesAndSelectorsAreIllegal : Prop :=
  ∀ w : CommandWord,
    (opField w = 0#4 ∨ 8 ≤ (opField w).toNat → ∃ r, decode w = .error r) ∧
      (opField w = 7#4 → 4 ≤ (selField w).toNat → ∃ r, decode w = .error r)

/-- R114: a word with a reserved field that is not zero decodes to ILLEGAL, whatever its other fields hold. The
reserved fields are those of formats S and F (`w[27:2]`), B (`w[27:8]`), T (`w[27:24]` and `w[15:5]`), N
(`w[27:0]`) and R (`w[23:5]`, ARG for SEL 0 and 1, `ARG[4:2]` for SEL 2). -/
def Obligations.NonzeroReservedFieldsAreIllegal : Prop :=
  ∀ w : CommandWord,
    (opField w = 1#4 ∨ opField w = 2#4 → w.extractLsb' 2 26 ≠ 0#26 → ∃ r, decode w = .error r) ∧
      (opField w = 3#4 → w.extractLsb' 8 20 ≠ 0#20 → ∃ r, decode w = .error r) ∧
      (opField w = 4#4 → w.extractLsb' 24 4 ≠ 0#4 ∨ w.extractLsb' 5 11 ≠ 0#11 → ∃ r, decode w = .error r) ∧
      (opField w = 5#4 ∨ opField w = 6#4 → w.extractLsb' 0 28 ≠ 0#28 → ∃ r, decode w = .error r) ∧
      (opField w = 7#4 → w.extractLsb' 5 19 ≠ 0#19 → ∃ r, decode w = .error r) ∧
      (opField w = 7#4 → selField w = 0#4 ∨ selField w = 1#4 → w.extractLsb' 0 5 ≠ 0#5 →
        ∃ r, decode w = .error r) ∧
      (opField w = 7#4 → selField w = 2#4 → w.extractLsb' 2 3 ≠ 0#3 → ∃ r, decode w = .error r)

/-- R115: `STRUCT = 3` in a SET_STRUCTURE word decodes to ILLEGAL, and no other operand value is reserved: with the
reserved fields zero, every `FRM`, `CRC4`, `SIL`, `TS`, `CHAN`, `K` and `TS5` is read as it stands. -/
def Obligations.StructThreeIsTheOnlyReservedValue : Prop :=
  ∀ w : CommandWord,
    (opField w = 1#4 → w.extractLsb' 0 2 = 3#2 → ∃ r, decode w = .error r) ∧
      (opField w = 1#4 → w.extractLsb' 2 26 = 0#26 → w.extractLsb' 0 2 ≠ 3#2 →
        decode w = .ok (.setStructure (w.extractLsb' 0 2))) ∧
      (opField w = 2#4 → w.extractLsb' 2 26 = 0#26 →
        decode w = .ok (.setFraming (if w.getLsbD 0 then .multiframe else .doubleFrame) (w.getLsbD 1))) ∧
      (opField w = 3#4 → w.extractLsb' 8 20 = 0#20 → decode w = .ok (.setSilence (w.extractLsb' 0 8))) ∧
      (opField w = 4#4 → w.extractLsb' 24 4 = 0#4 → w.extractLsb' 5 11 = 0#11 →
        decode w = .ok (.bind (w.extractLsb' 16 8) (w.extractLsb' 0 5))) ∧
      (opField w = 7#4 → selField w = 2#4 → w.extractLsb' 2 22 = 0#22 →
        decode w = .ok (.readFrame (w.extractLsb' 0 2))) ∧
      (opField w = 7#4 → selField w = 3#4 → w.extractLsb' 5 19 = 0#19 →
        decode w = .ok (.readTsMode (w.extractLsb' 0 5)))

/-- The spec's encoding examples, both ways, and its examples of words that decode to ILLEGAL (R123, the spec's own
inference "derived: from rule R101 to rule R115"). -/
def Obligations.EncodingExamplesDecode : Prop :=
  (∀ p ∈ [(0x10000002#32, Instr.setStructure 2#2), (0x20000001#32, .setFraming .multiframe false),
      (0x20000003#32, .setFraming .multiframe true), (0x300000FF#32, .setSilence 0xFF#8),
      (0x40010003#32, .bind 1#8 3#5), (0x40280000#32, .bind 40#8 0#5), (0x50000000#32, .init),
      (0x60000000#32, .nextByte), (0x70000000#32, .readStatus), (0x71000000#32, .readCursor),
      (0x72000002#32, .readFrame 2#2), (0x73000010#32, .readTsMode 16#5)],
    decode p.1 = .ok p.2 ∧ encode p.2 = p.1) ∧
    ∀ w ∈ [0x00000000#32, 0x10000003#32, 0x50000001#32, 0x74000000#32, 0x72000004#32, 0xF0000000#32],
      ∃ r, decode w = .error r

/-- The assembler of R119, over split lines. Each row of its table gives the row's word, for every operand in range
(the formats S, F, B, T and R put a number in its field, R103 to R109); every operand out of range is refused; a line
that is assembled is a line of the table, as there are no pseudo-instructions; and its word decodes to the command the
line names. That a line comes already split into a mnemonic and operands is the model's choice (log entry 17). -/
def Obligations.AssembledLinesDecodeAndBadOperandsAreRefused : Prop :=
  (∀ p ∈ asmRowsWithoutNumber, assemble p.1 = some p.2) ∧
    (∀ n, n ≤ 2 → assemble ⟨"SET_STRUCTURE", [.number n]⟩ = some (BitVec.ofNat 32 (0x10000000 + n))) ∧
    (∀ b, b < 256 → assemble ⟨"SET_SILENCE", [.number b]⟩ = some (BitVec.ofNat 32 (0x30000000 + b))) ∧
    (∀ ts c, ts < 256 → c < 32 →
      assemble ⟨"BIND", [.number ts, .number c]⟩ = some (BitVec.ofNat 32 (0x40000000 + ts * 0x10000 + c))) ∧
    (∀ k, k < 4 → assemble ⟨"READ_FRAME", [.number k]⟩ = some (BitVec.ofNat 32 (0x72000000 + k))) ∧
    (∀ ts, ts < 32 → assemble ⟨"READ_TSMODE", [.number ts]⟩ = some (BitVec.ofNat 32 (0x73000000 + ts))) ∧
    (∀ n, 3 ≤ n → assemble ⟨"SET_STRUCTURE", [.number n]⟩ = none) ∧
    (∀ n, 256 ≤ n → assemble ⟨"SET_SILENCE", [.number n]⟩ = none) ∧
    (∀ ts c, 256 ≤ ts ∨ 32 ≤ c → assemble ⟨"BIND", [.number ts, .number c]⟩ = none) ∧
    (∀ n, 4 ≤ n → assemble ⟨"READ_FRAME", [.number n]⟩ = none) ∧
    (∀ n, 32 ≤ n → assemble ⟨"READ_TSMODE", [.number n]⟩ = none) ∧
    (∀ l w, assemble l = some w →
      l ∈ asmRowsWithoutNumber.map Prod.fst ∨
        (∃ x ∈ ["SET_STRUCTURE", "SET_SILENCE", "READ_FRAME", "READ_TSMODE"], ∃ n, l = ⟨x, [.number n]⟩) ∨
          ∃ ts c, l = ⟨"BIND", [.number ts, .number c]⟩) ∧
    ∀ l w, assemble l = some w → ∃ i, decode w = .ok i ∧ asmCommand l = some i

/-! ## The step and the response -/

/-- A step runs the decoded command (R17, R18, R23): with a legal ALIGN_ROM and a command word as the host's next input, one step
takes the word, records `Cmd(w)` and is `exec` of what the word decodes to. -/
def Obligations.StepRunsTheDecodedCommand : Prop :=
  ∀ (s : State) (w : CommandWord) (rest : List HostInput) (i : Instr),
    alignRomLegal s.roms.align = true → s.env.inputs = .command w :: rest → decode w = .ok i →
      step s = exec i { s with env := { s.env with inputs := rest, trace := s.env.trace ++ [.cmd w] } }

/-- R116: a word that decodes to ILLEGAL gets ERR_ILLEGAL in every phase; no state changes and no channel or
diagnostic event happens. -/
def Obligations.IllegalWordOnlyResponds : Prop :=
  ∀ (s : State) (w : CommandWord) (rest : List HostInput) (r : IllegalReason),
    alignRomLegal s.roms.align = true → s.env.inputs = .command w :: rest → decode w = .error r →
      step s = .next
        { s with
          env := { s.env with
            inputs := rest
            trace := s.env.trace ++ [.cmd w, .resp (respWord .errIllegal 0x00#8)] } }

/-- With no input from the host the engine is idle and keeps all its state (R325). That a step then answers the
state itself is the model's choice (log entry 2). -/
def Obligations.IdleEngineKeepsItsState : Prop :=
  ∀ s : State, alignRomLegal s.roms.align = true → s.env.inputs = [] → step s = .next s

/-- ALIGN_ROM contents that break `ALIGN_ROM[i] & 0x7F = 0` are refused before any command, and only those are
(R144, D31). That the refusal is a step's is the model's choice (log entry 7). -/
def Obligations.IllegalAlignRomIsRefused : Prop :=
  ∀ s : State, step s = .refused .alignRomParameter ↔ ∃ i, readBank s.roms.align i &&& 0x7F#8 ≠ 0#8

/-- R350: reset closes every open channel in ascending order and gives every register its reset value, without a
response or a diagnostic. The ROMs and the channels' own positions stay (R352). -/
def Obligations.ResetInputRestoresTheResetState : Prop :=
  ∀ (s : State) (rest : List HostInput), alignRomLegal s.roms.align = true → s.env.inputs = .reset :: rest →
    ∃ t, step s = .next t ∧
      t.regs.phase = .config ∧ t.regs.failCause = 0#3 ∧ t.regs.structureMode = 0#2 ∧
      t.regs.framing = .doubleFrame ∧ t.regs.crc4Req = false ∧ t.regs.silence = 0x00#8 ∧
      (∀ u, readBank t.regs.bindValid u = false ∧ readBank t.regs.bindChan u = 0#5 ∧
        readBank t.regs.mode u = .unbound) ∧
      t.regs.cursor = 0#5 ∧ t.regs.frame = 0#32 ∧ (∀ c, readBank t.regs.chanOpen c = false) ∧
      t.roms = s.roms ∧
      t.env = { s.env with
        inputs := rest
        trace := s.env.trace ++
          ((List.range 32).map (BitVec.ofNat 5)).filterMap fun c =>
            if readBank s.regs.chanOpen c then some (.chanClose c) else none }

/-- The power-up state is the reset state (R351): the values of R33, with the default ROM contents (R142, R145). -/
def Obligations.PowerUpStateHoldsTheResetValues : Prop :=
  State.reset.regs.phase = .config ∧ State.reset.regs.failCause = 0#3 ∧
    State.reset.regs.structureMode = 0#2 ∧ State.reset.regs.framing = .doubleFrame ∧
    State.reset.regs.crc4Req = false ∧ State.reset.regs.silence = 0x00#8 ∧
    (∀ t, readBank State.reset.regs.bindValid t = false ∧ readBank State.reset.regs.bindChan t = 0#5 ∧
      readBank State.reset.regs.mode t = .unbound) ∧
    State.reset.regs.cursor = 0#5 ∧ State.reset.regs.frame = 0#32 ∧
    (∀ c, readBank State.reset.regs.chanOpen c = false) ∧
    readBank State.reset.roms.sync 0#1 = 0x1B#8 ∧ readBank State.reset.roms.sync 1#1 = 0x5F#8 ∧
    ∀ i, readBank State.reset.roms.align i = if i = 5#4 ∨ i = 9#4 ∨ i = 11#4 then 0x80#8 else 0x00#8

/-- R120: every command word, an ILLEGAL one too, gives exactly one response, its last effect, an 11-bit word with
the status code in bits 10..8 and DATA in bits 7..0; in a state of the invariant every command word completes. -/
def Obligations.EveryCommandGivesOneResponse : Prop :=
  (∀ (w : CommandWord) (s t : State), executeWord w s = .next t →
    ∃ es status data, t.env.trace = s.env.trace ++ es ++ [.resp (respWord status data)] ∧ responses es = []) ∧
    (∀ (w : CommandWord) (s : State), Inv s → ∃ t, executeWord w s = .next t) ∧
    ∀ status data,
      (respWord status data).extractLsb' 8 3 = statusCode status ∧ (respWord status data).extractLsb' 0 8 = data

/-- After ERR_ILLEGAL, ERR_PHASE or ERR_FAILED the state is exactly as before the command, but for the response in
the trace (R312, the spec's own inference "derived: from rule R116, rule R303 and rule R304"). -/
def Obligations.NonFatalErrorsChangeNothing : Prop :=
  ∀ (w : CommandWord) (s t : State) (status : Status) (data : Byte),
    status = .errIllegal ∨ status = .errPhase ∨ status = .errFailed →
    executeWord w s = .next t → t.env.trace.getLast? = some (.resp (respWord status data)) →
      t = emit (.resp (respWord status data)) s

/-! ## Configuration commands -/

/-- R200: SET_STRUCTURE, its word and its effect in every phase; in CONFIG it writes `R.STRUCTURE` and nothing
else. `STRUCT = 3` has no word that decodes to it. -/
def Obligations.SetStructureWritesStructure : Prop :=
  ∀ (struct : BitVec 2) (s : State), WellFormed (.setStructure struct) = true →
    decode (0x10000000#32 ||| struct.setWidth 32) = .ok (.setStructure struct) ∧
    (s.regs.phase = .config → exec (.setStructure struct) s =
      .next (emit (.resp (respWord .ok 0x00#8)) { s with regs := { s.regs with structureMode := struct } })) ∧
    (s.regs.phase = .running → exec (.setStructure struct) s = .next (emit (.resp (respWord .errPhase 0x00#8)) s)) ∧
    (s.regs.phase = .failed → exec (.setStructure struct) s = .next (emit (.resp (respWord .errFailed 0x00#8)) s))

/-- R205: SET_FRAMING, its word and its effect in every phase; in CONFIG it writes `R.FRAMING` and `R.CRC4_REQ` and nothing else. -/
def Obligations.SetFramingWritesFramingAndCrcRequest : Prop :=
  ∀ (frm : FramingMode) (crc4 : Bool) (s : State),
    decode (0x20000000#32 ||| (if crc4 then 2#32 else 0#32) ||| (if frm = .multiframe then 1#32 else 0#32)) =
      .ok (.setFraming frm crc4) ∧
    (s.regs.phase = .config → exec (.setFraming frm crc4) s =
      .next (emit (.resp (respWord .ok 0x00#8))
        { s with regs := { s.regs with framing := frm, crc4Req := crc4 } })) ∧
    (s.regs.phase = .running → exec (.setFraming frm crc4) s = .next (emit (.resp (respWord .errPhase 0x00#8)) s)) ∧
    (s.regs.phase = .failed → exec (.setFraming frm crc4) s = .next (emit (.resp (respWord .errFailed 0x00#8)) s))

/-- R210: SET_SILENCE, its word and its effect in every phase; in CONFIG it writes `R.SILENCE` and nothing else. -/
def Obligations.SetSilenceWritesSilence : Prop :=
  ∀ (sil : Byte) (s : State),
    decode (0x30000000#32 ||| sil.setWidth 32) = .ok (.setSilence sil) ∧
    (s.regs.phase = .config → exec (.setSilence sil) s =
      .next (emit (.resp (respWord .ok 0x00#8)) { s with regs := { s.regs with silence := sil } })) ∧
    (s.regs.phase = .running → exec (.setSilence sil) s = .next (emit (.resp (respWord .errPhase 0x00#8)) s)) ∧
    (s.regs.phase = .failed → exec (.setSilence sil) s = .next (emit (.resp (respWord .errFailed 0x00#8)) s))

/-- BIND of an unbound timeslot in CONFIG completes, writes the two binding entries of that timeslot, and changes
nothing else; no channel is touched (R215, R220). In RUNNING and FAILED it is refused. -/
def Obligations.BindBindsAnUnboundTimeslot : Prop :=
  ∀ (ts : BitVec 8) (chan : ChannelId) (s : State),
    (s.regs.phase = .config → ts.toNat < 32 → readBank s.regs.bindValid (ts.setWidth 5) = false →
      ∃ valid chans, exec (.bind ts chan) s =
          .next (emit (.resp (respWord .ok 0x00#8))
            { s with regs := { s.regs with bindValid := valid, bindChan := chans } }) ∧
        ∀ t : Timeslot,
          readBank valid t = (if t.toNat = ts.toNat then true else readBank s.regs.bindValid t) ∧
            readBank chans t = if t.toNat = ts.toNat then chan else readBank s.regs.bindChan t) ∧
    (s.regs.phase = .running → exec (.bind ts chan) s = .next (emit (.resp (respWord .errPhase 0x00#8)) s)) ∧
    (s.regs.phase = .failed → exec (.bind ts chan) s = .next (emit (.resp (respWord .errFailed 0x00#8)) s))

/-- R217: BIND with `TS >= 32` in CONFIG responds ERR_RANGE and enters FAILED with cause 3; nothing else changes. -/
def Obligations.BindOutOfRangeIsFatal : Prop :=
  ∀ (ts : BitVec 8) (chan : ChannelId) (s : State), s.regs.phase = .config → 32 ≤ ts.toNat →
    exec (.bind ts chan) s =
      .next (emit (.resp (respWord .errRange 0x00#8))
        { s with regs := { s.regs with phase := .failed, failCause := 3#3 } })

/-- R218: BIND of a timeslot already bound in CONFIG responds ERR_DUP and enters FAILED with cause 4, whatever the
channel; the earlier binding stays. -/
def Obligations.BindOfABoundTimeslotIsFatal : Prop :=
  ∀ (ts : BitVec 8) (chan : ChannelId) (s : State), s.regs.phase = .config → ts.toNat < 32 →
    readBank s.regs.bindValid (ts.setWidth 5) = true →
      exec (.bind ts chan) s =
        .next (emit (.resp (respWord .errDup 0x00#8))
          { s with regs := { s.regs with phase := .failed, failCause := 4#3 } })

/-- R303: a command other than a read, in a phase that does not admit it, responds ERR_PHASE, changes no state and
makes no channel request. -/
def Obligations.CommandsOutOfPhaseAreRefused : Prop :=
  ∀ (i : Instr) (s : State),
    ((∃ st, i = .setStructure st) ∨ (∃ f c, i = .setFraming f c) ∨ (∃ b, i = .setSilence b) ∨
        (∃ ts c, i = .bind ts c) ∨ i = .init → s.regs.phase = .running →
      exec i s = .next (emit (.resp (respWord .errPhase 0x00#8)) s)) ∧
    (i = .nextByte → s.regs.phase = .config →
      exec i s = .next (emit (.resp (respWord .errPhase 0x00#8)) s))

/-- R304: in FAILED every command other than a read responds ERR_FAILED, changes no state and makes no channel
request. -/
def Obligations.FailedEngineRefusesEverythingButReads : Prop :=
  ∀ (i : Instr) (s : State),
    (∀ k ts5, i ≠ .readStatus ∧ i ≠ .readCursor ∧ i ≠ .readFrame k ∧ i ≠ .readTsMode ts5) →
    s.regs.phase = .failed → exec i s = .next (emit (.resp (respWord .errFailed 0x00#8)) s)

/-! ## INIT -/

/-- INIT in CONFIG completes when every bound channel answers OK: the modes of R245 and R246, the counters at 0
(R249), RUNNING, the bound channels open, DATA 0x00 (R250), and no other register changed. -/
def Obligations.InitAssignsModesAndRuns : Prop :=
  ∀ s : State, s.regs.phase = .config →
    (∀ t, readBank s.regs.bindValid t = true → openAnswer (readBank s.regs.bindChan t) s = .ok) →
    ∃ u, exec .init s = .next u ∧
      u.regs.phase = .running ∧ u.regs.cursor = 0#5 ∧ u.regs.frame = 0#32 ∧
      (∀ t, readBank u.regs.mode t =
        if readBank s.regs.bindValid t then .ext
        else if t = 0#5 ∧ s.regs.structureMode ≠ 0#2 then .sync
        else .silence) ∧
      (∀ c, readBank u.regs.chanOpen c = true ↔
        (∃ t, readBank s.regs.bindValid t = true ∧ readBank s.regs.bindChan t = c) ∨
          readBank s.regs.chanOpen c = true) ∧
      u.regs.failCause = s.regs.failCause ∧ u.regs.structureMode = s.regs.structureMode ∧
      u.regs.framing = s.regs.framing ∧ u.regs.crc4Req = s.regs.crc4Req ∧
      u.regs.silence = s.regs.silence ∧ u.regs.bindValid = s.regs.bindValid ∧
      u.regs.bindChan = s.regs.bindChan ∧ u.roms = s.roms ∧ u.env.inputs = s.env.inputs ∧
      u.env.trace.getLast? = some (.resp (respWord .ok 0x00#8))

/-- R241, R242: a successful INIT asks each distinct bound channel exactly once, in the order of the lowest
timeslot bound to it, and asks no other channel; these requests and the response are all its events. -/
def Obligations.InitOpensEachBoundChannelOnceInTimeslotOrder : Prop :=
  ∀ s : State, s.regs.phase = .config →
    (∀ t, readBank s.regs.bindValid t = true → openAnswer (readBank s.regs.bindChan t) s = .ok) →
    ∃ u cs, exec .init s = .next u ∧
      u.env.trace = s.env.trace ++ cs.map (.chanOpen · .ok) ++ [.resp (respWord .ok 0x00#8)] ∧
      cs.Nodup ∧
      (∀ c, c ∈ cs ↔ ∃ t, readBank s.regs.bindValid t = true ∧ readBank s.regs.bindChan t = c) ∧
      (∀ c d, [c, d].Sublist cs →
        ∃ t, readBank s.regs.bindValid t = true ∧ readBank s.regs.bindChan t = c ∧
          ∀ v, readBank s.regs.bindValid v = true → readBank s.regs.bindChan v = d → t.toNat < v.toNat) ∧
      ∀ c, feed c u = if c ∈ cs then afterOpen (feed c s) else feed c s

/-- After a successful INIT a channel is open exactly if it is bound to at least one timeslot (R243, the spec's own
inference "derived: from rule R240"). The premise that no channel is open in CONFIG is R46 (a). -/
def Obligations.InitLeavesExactlyTheBoundChannelsOpen : Prop :=
  ∀ s u : State, s.regs.phase = .config → (∀ c, readBank s.regs.chanOpen c = false) →
    exec .init s = .next u → u.regs.phase = .running →
      ∀ c, readBank u.regs.chanOpen c = true ↔
        ∃ t, readBank s.regs.bindValid t = true ∧ readBank s.regs.bindChan t = c

/-- R244: at the first channel that answers FAIL, in the order of R241, INIT stops opening, closes the channels it
has opened in the order it opened them, responds ERR_OPEN and enters FAILED with cause 5; no mode is assigned and
no other register changes. The premise that no channel is open in CONFIG is R46 (a). -/
def Obligations.InitStopsAtTheFirstFailedOpen : Prop :=
  ∀ (s : State) (before after : List ChannelId) (c : ChannelId),
    s.regs.phase = .config → (∀ d, readBank s.regs.chanOpen d = false) →
    boundChannels s.regs = before ++ c :: after →
    (∀ d ∈ before, openAnswer d s = .ok) → openAnswer c s = .fail →
    ∃ u, exec .init s = .next u ∧
      u.regs = { s.regs with phase := .failed, failCause := 5#3 } ∧ u.roms = s.roms ∧
      u.env.inputs = s.env.inputs ∧
      u.env.trace = s.env.trace ++ before.map (.chanOpen · .ok) ++ [.chanOpen c .fail] ++
        before.map .chanClose ++ [.resp (respWord .errOpen 0x00#8)] ∧
      ∀ d, feed d u = if d ∈ before ∨ d = c then afterOpen (feed d s) else feed d s

/-- INIT with no binding makes no channel request and cannot fail in CONFIG; timeslot 0 gets SYNC in a structured
engine, every other timeslot SILENCE (R248, the spec's own inference "derived: from rule R240"). -/
def Obligations.InitWithoutBindingsCannotFail : Prop :=
  ∀ s : State, s.regs.phase = .config → (∀ t, readBank s.regs.bindValid t = false) →
    ∃ mode, exec .init s =
        .next (emit (.resp (respWord .ok 0x00#8))
          { s with regs := { s.regs with mode := mode, cursor := 0#5, frame := 0#32, phase := .running } }) ∧
      ∀ t, readBank mode t = if t = 0#5 ∧ s.regs.structureMode ≠ 0#2 then .sync else .silence

/-! ## NEXT_BYTE and the sources -/

/-- R252: NEXT_BYTE in CONFIG responds ERR_PHASE and in FAILED ERR_FAILED; no state changes and no channel is
asked. -/
def Obligations.NextByteIsRefusedOutsideRunning : Prop :=
  ∀ s : State,
    (s.regs.phase = .config → exec .nextByte s = .next (emit (.resp (respWord .errPhase 0x00#8)) s)) ∧
    (s.regs.phase = .failed → exec .nextByte s = .next (emit (.resp (respWord .errFailed 0x00#8)) s))

/-- R172, NEXT_BYTE at a SILENCE timeslot: the silence byte, the counters advance (R255), nothing else changes. -/
def Obligations.NextByteOfASilenceTimeslot : Prop :=
  ∀ s : State, s.regs.phase = .running → readBank s.regs.mode s.regs.cursor = .silence →
    exec .nextByte s =
      .next (emit (.resp (respWord .ok s.regs.silence))
        { s with
          regs := { s.regs with
            cursor := s.regs.cursor + 1#5
            frame := if s.regs.cursor = 31#5 then s.regs.frame + 1#32 else s.regs.frame } })

/-- NEXT_BYTE at a SYNC timeslot: the sync word of the frame's parity, in multiframe mode with the alignment bit of
the frame modulo 16 (R173, R150), the counters advance (R255), nothing else changes. -/
def Obligations.NextByteOfASyncTimeslot : Prop :=
  ∀ s : State, s.regs.phase = .running → readBank s.regs.mode s.regs.cursor = .sync →
    exec .nextByte s =
      .next (emit
        (.resp (respWord .ok
          (if s.regs.framing = .doubleFrame then readBank s.roms.sync (BitVec.ofNat 1 (s.regs.frame.toNat % 2))
          else readBank s.roms.sync (BitVec.ofNat 1 (s.regs.frame.toNat % 2)) |||
            readBank s.roms.align (BitVec.ofNat 4 (s.regs.frame.toNat % 16)))))
        { s with
          regs := { s.regs with
            cursor := s.regs.cursor + 1#5
            frame := if s.regs.cursor = 31#5 then s.regs.frame + 1#32 else s.regs.frame } })

/-- NEXT_BYTE at an EXT timeslot whose channel is open and answers an octet: that octet, one `ChanRead`, the
counters advance, no register changes but the counters (R176, R255). -/
def Obligations.NextByteOfAnExternalTimeslot : Prop :=
  ∀ (s : State) (c : ChannelId) (b : Byte), s.regs.phase = .running →
    readBank s.regs.mode s.regs.cursor = .ext → readBank s.regs.bindChan s.regs.cursor = c →
    readBank s.regs.chanOpen c = true → readAnswer c s = .data b →
    ∃ channels, exec .nextByte s = .next
        { s with
          regs := { s.regs with
            cursor := s.regs.cursor + 1#5
            frame := if s.regs.cursor = 31#5 then s.regs.frame + 1#32 else s.regs.frame }
          env := { s.env with
            channels := channels
            trace := s.env.trace ++ [.chanRead c (.data b), .resp (respWord .ok b)] } } ∧
      ∀ d, readBank channels d = if d = c then afterRead (readBank s.env.channels c) else readBank s.env.channels d

/-- NEXT_BYTE at an EXT timeslot whose channel ends: one `ChanRead`, then the degrade of R178 in the same command,
`ChanClose` before `Diag` (R83), and the silence byte, still with status OK. -/
def Obligations.NextByteDegradesAtTheChannelsEnd : Prop :=
  ∀ (s : State) (c : ChannelId) (reason : EndReason), s.regs.phase = .running →
    readBank s.regs.mode s.regs.cursor = .ext → readBank s.regs.bindChan s.regs.cursor = c →
    readBank s.regs.chanOpen c = true → readAnswer c s = .ended reason →
    ∃ mode chanOpen channels, exec .nextByte s = .next
        { s with
          regs := { s.regs with
            mode := mode
            chanOpen := chanOpen
            cursor := s.regs.cursor + 1#5
            frame := if s.regs.cursor = 31#5 then s.regs.frame + 1#32 else s.regs.frame }
          env := { s.env with
            channels := channels
            trace := s.env.trace ++
              [.chanRead c (.ended reason), .chanClose c,
                .diag s.regs.cursor c (if reason = .eof then .eof else .error),
                .resp (respWord .ok s.regs.silence)] } } ∧
      (∀ t, readBank mode t = if t = s.regs.cursor then .silence else readBank s.regs.mode t) ∧
      (∀ d, readBank chanOpen d = if d = c then false else readBank s.regs.chanOpen d) ∧
      ∀ d, readBank channels d = if d = c then afterRead (readBank s.env.channels c) else readBank s.env.channels d

/-- R177: an EXT timeslot whose channel is closed issues no `ChanRead`; it degrades at once with reason CLOSED and
gives the silence byte. -/
def Obligations.NextByteOfAClosedChannelDegradesWithoutARead : Prop :=
  ∀ (s : State) (c : ChannelId), s.regs.phase = .running →
    readBank s.regs.mode s.regs.cursor = .ext → readBank s.regs.bindChan s.regs.cursor = c →
    readBank s.regs.chanOpen c = false →
    ∃ mode, exec .nextByte s = .next
        { s with
          regs := { s.regs with
            mode := mode
            cursor := s.regs.cursor + 1#5
            frame := if s.regs.cursor = 31#5 then s.regs.frame + 1#32 else s.regs.frame }
          env := { s.env with
            trace := s.env.trace ++
              [.diag s.regs.cursor c .closed, .resp (respWord .ok s.regs.silence)] } } ∧
      ∀ t, readBank mode t = if t = s.regs.cursor then .silence else readBank s.regs.mode t

/-- NEXT_BYTE in RUNNING stops exactly at an UNBOUND timeslot, a case no run reaches (R175, the spec's own inference
"derived: from rule R46 and rule R252"). That this is a fault is the model's choice, which R175 allows (log entry
9). -/
def Obligations.NextByteFaultsExactlyAtAnUnboundTimeslot : Prop :=
  ∀ s : State, s.regs.phase = .running →
    (exec .nextByte s = .fault .unboundTimeslot ↔ readBank s.regs.mode s.regs.cursor = .unbound)

/-- R257: in RUNNING NEXT_BYTE always responds OK with one octet, in every state of the invariant. -/
def Obligations.NextByteNeverFailsInRunning : Prop :=
  ∀ s : State, Inv s → s.regs.phase = .running →
    ∃ t b, exec .nextByte s = .next t ∧ t.env.trace.getLast? = some (.resp (respWord .ok b)) ∧
      t.regs.phase = .running ∧ t.regs.cursor = s.regs.cursor + 1#5

/-- R171: one NEXT_BYTE evaluates the source of the cursor's timeslot alone: no other timeslot degrades or emits a
diagnostic, and no channel but the cursor timeslot's is read or closed. -/
def Obligations.NextByteTouchesOnlyTheCursorsTimeslot : Prop :=
  ∀ s t : State, exec .nextByte s = .next t →
    (∀ u, u ≠ s.regs.cursor → readBank t.regs.mode u = readBank s.regs.mode u) ∧
    (∀ c, c ≠ readBank s.regs.bindChan s.regs.cursor →
      readBank t.regs.chanOpen c = readBank s.regs.chanOpen c ∧ feed c t = feed c s) ∧
    ∃ es, t.env.trace = s.env.trace ++ es ∧
      ∀ e ∈ es,
        (∃ r, e = .resp r) ∨ (∃ a, e = .chanRead (readBank s.regs.bindChan s.regs.cursor) a) ∨
          e = .chanClose (readBank s.regs.bindChan s.regs.cursor) ∨
          ∃ r, e = .diag s.regs.cursor (readBank s.regs.bindChan s.regs.cursor) r

/-- The progress law: in RUNNING, 32 NEXT_BYTE commands in a row succeed, advance the frame counter by exactly 1
modulo 2^32 and leave the cursor where it was, from any cursor value (R47, the spec's own inference "derived: from
rule R255"). -/
def Obligations.ThirtyTwoNextBytesAdvanceOneFrame : Prop :=
  ∀ s : State, s.regs.phase = .running → (∀ t, readBank s.regs.mode t ≠ .unbound) →
    ∃ t, nextBytes 32 s = .next t ∧ t.regs.cursor = s.regs.cursor ∧ t.regs.frame = s.regs.frame + 1#32 ∧
      (octets 32 s).length = 32

/-- After INIT, NEXT_BYTE number n gives timeslot `n mod 32` of frame `floor(n / 32) mod 2^32`; no timeslot is
skipped, repeated or chosen (R258, the spec's own inference "derived: from rule R249 and rule R255"). -/
def Obligations.OctetStreamScansTheTimeslotsInOrder : Prop :=
  ∀ (n : Nat) (s : State), s.regs.phase = .running → (∀ t, readBank s.regs.mode t ≠ .unbound) →
    s.regs.cursor = 0#5 → s.regs.frame = 0#32 →
    ∃ t, nextBytes n s = .next t ∧ t.regs.cursor = BitVec.ofNat 5 (n % 32) ∧
      t.regs.frame = BitVec.ofNat 32 (n / 32) ∧
      (octets n s).map Prod.fst = (List.range n).map fun k => BitVec.ofNat 5 (k % 32)

/-- While channel `c` answers an octet to every read, the octets of the timeslots that share it, in NEXT_BYTE order,
are exactly the octets it answered, in order and each once, whatever the other timeslots and channels do (R86, the
spec's own inference "derived: from rule R85 and rule R176"). -/
def Obligations.SharersReconstructTheirChannel : Prop :=
  ∀ (n : Nat) (s : State) (c : ChannelId) (bytes : List Byte) (rest : List ReadAnswer),
    s.regs.phase = .running → (∀ t, readBank s.regs.mode t ≠ .unbound) →
    readBank s.regs.chanOpen c = true → (feed c s).reads = bytes.map .data ++ rest → n ≤ bytes.length →
    ∃ t, nextBytes n s = .next t ∧
      let got := ((octets n s).filter fun p => servedBy s.regs c p.1).map Prod.snd
      got = bytes.take got.length ∧ (feed c t).reads = (bytes.drop got.length).map .data ++ rest ∧
        readBank t.regs.chanOpen c = true

/-- Between two resets each timeslot emits at most one diagnostic, over any number of steps from any state (R180, the
spec's own inference "derived: from rule R178 and rule R179"). -/
def Obligations.AtMostOneDiagnosticBetweenResets : Prop :=
  ∀ (n : Nat) (s t : State) (u : Timeslot), HostInput.reset ∉ s.env.inputs →
    Sys2Proof.core.run n s = .next t →
    ∃ es, t.env.trace = s.env.trace ++ es ∧ (es.filter (isDiagOf u)).length ≤ 1

/-! ## Framing tables -/

/-- R151, R152: the framing function is the sync word of `f mod 2`, in multiframe mode ORed with the alignment word
of `f mod 16`. -/
def Obligations.FramingFunctionReadsTheTwoTables : Prop :=
  ∀ (roms : Roms) (f : FrameCount),
    framing roms f .doubleFrame = readBank roms.sync (BitVec.ofNat 1 (f.toNat % 2)) ∧
    framing roms f .multiframe =
      readBank roms.sync (BitVec.ofNat 1 (f.toNat % 2)) ||| readBank roms.align (BitVec.ofNat 4 (f.toNat % 16))

/-- With the default ROM contents, the octet of every frame in both modes (R153, the spec's own inference "derived:
from rule R142, rule R145 and rule R150"). The contents are parameters the model sets at the spec's defaults (log
entries 6, 7). -/
def Obligations.DefaultFramingOctets : Prop :=
  ∀ f : FrameCount,
    framing State.reset.roms f .doubleFrame = (if f.toNat % 2 = 0 then 0x1B#8 else 0x5F#8) ∧
    framing State.reset.roms f .multiframe =
      if f.toNat % 2 = 0 then 0x1B#8
      else if f.toNat % 16 = 5 ∨ f.toNat % 16 = 9 ∨ f.toNat % 16 = 11 then 0xDF#8
      else 0x5F#8

/-- With an ALIGN_ROM that meets R144, a sync word whose bit 7 is 1 masks the alignment bit: the multiframe octet is
the double-frame octet (R143, the spec's own inference "derived: from rule R150"). -/
def Obligations.SyncWordBitSevenMasksTheAlignmentBit : Prop :=
  ∀ (roms : Roms) (f : FrameCount), alignRomLegal roms.align = true →
    (framing roms f .doubleFrame).getLsbD 7 = true →
      framing roms f .multiframe = framing roms f .doubleFrame

/-- Timeslot 0's sequence has period 16 in both modes, and 2 in double-frame mode, across the wrap of the frame
counter, for any ROM contents (R155, the spec's own inference "derived: from rule R150 and 10_state.md rule R43"). -/
def Obligations.FramingIsPeriodicAcrossTheWrap : Prop :=
  ∀ (roms : Roms) (f : FrameCount) (m : FramingMode),
    framing roms (f + 16#32) m = framing roms f m ∧
    framing roms (f + 2#32) .doubleFrame = framing roms f .doubleFrame ∧
    framing roms 0xFFFFFFFF#32 m = framing roms 15#32 m ∧
    framing roms (0xFFFFFFFF#32 + 1#32) m = framing roms (15#32 + 1#32) m

/-! ## Reads -/

/-- R280: a read responds OK in every phase, writes no state and causes no other event. -/
def Obligations.ReadsRespondOkAndChangeNothing : Prop :=
  ∀ (i : Instr) (s : State),
    i = .readStatus ∨ i = .readCursor ∨ (∃ k, i = .readFrame k) ∨ (∃ t, i = .readTsMode t) →
    ∃ d, exec i s = .next (emit (.resp (respWord .ok d)) s)

/-- R281: READ_STATUS, its word, and its DATA: the phase's code in `DATA[7:6]`, the cause in `DATA[5:3]` and 0 in
`DATA[2:0]`; after reset DATA is 0x00, and in a state of the invariant the codes R281 rules out never occur. -/
def Obligations.ReadStatusGivesPhaseAndCause : Prop :=
  decode 0x70000000#32 = .ok .readStatus ∧
  (∀ s : State, ∃ d, exec .readStatus s = .next (emit (.resp (respWord .ok d)) s) ∧
    d.extractLsb' 6 2 = (match s.regs.phase with | .config => 0#2 | .running => 1#2 | .failed => 2#2) ∧
    d.extractLsb' 3 3 = s.regs.failCause ∧ d.extractLsb' 0 3 = 0#3 ∧
    (s.regs = Regs.reset → d = 0x00#8) ∧
    (Inv s → d.extractLsb' 6 2 ≠ 3#2 ∧
      (d.extractLsb' 3 3 = 0#3 ∨ d.extractLsb' 3 3 = 3#3 ∨ d.extractLsb' 3 3 = 4#3 ∨ d.extractLsb' 3 3 = 5#3)))

/-- R282: READ_CURSOR, its word, and its DATA: the cursor, zero-extended; in CONFIG and FAILED it reads 0 in a state of the
invariant. -/
def Obligations.ReadCursorGivesTheCursor : Prop :=
  decode 0x71000000#32 = .ok .readCursor ∧
  ∀ s : State, ∃ d, exec .readCursor s = .next (emit (.resp (respWord .ok d)) s) ∧
    d.extractLsb' 0 5 = s.regs.cursor ∧ d.extractLsb' 5 3 = 0#3 ∧
    (Inv s → s.regs.phase ≠ .running → d = 0x00#8)

/-- R284: READ_FRAME, its word, and its DATA: octet `K` of the frame counter, octet 0 the least significant. -/
def Obligations.ReadFrameGivesOneOctet : Prop :=
  ∀ (s : State) (k : BitVec 2), decode (0x72000000#32 + k.setWidth 32) = .ok (.readFrame k) ∧
    exec (.readFrame k) s =
    .next (emit (.resp (respWord .ok (BitVec.ofNat 8 (s.regs.frame.toNat / 256 ^ k.toNat % 256)))) s)

/-- R286: READ_TSMODE, its word, and its DATA: the timeslot's mode code, zero-extended; in CONFIG and FAILED every timeslot reads 0 in
a state of the invariant. -/
def Obligations.ReadTsModeGivesTheMode : Prop :=
  ∀ (s : State) (t : Timeslot), decode (0x73000000#32 + t.setWidth 32) = .ok (.readTsMode t) ∧
    ∃ d, exec (.readTsMode t) s = .next (emit (.resp (respWord .ok d)) s) ∧
    d = (match readBank s.regs.mode t with
      | .unbound => 0#8
      | .silence => 1#8
      | .sync => 2#8
      | .ext => 3#8) ∧
    (Inv s → s.regs.phase ≠ .running → d = 0x00#8)

/-! ## The machine -/

/-- The invariant of R46 holds at reset (its clause on the counters of a FAILED engine is log entry 13). -/
def Obligations.InvariantHoldsAtReset : Prop := Inv State.reset

/-- Every step keeps the invariant (R46, the spec's own inference "derived: from rule R33, rule R40, rule R48 and the
command rules"; its clause on the counters of a FAILED engine is log entry 13). -/
def Obligations.StepKeepsTheInvariant : Prop :=
  ∀ s t : State, Inv s → step s = .next t → Inv t

/-- In a state of the invariant every step completes: no run from reset ends in a fault or a refusal (R175, R257,
R366). -/
def Obligations.InvariantStatesNeverStop : Prop :=
  ∀ s : State, Inv s → ∃ t, step s = .next t

/-- In RUNNING no command changes a configuration register or a binding (R46 (h), the spec's own inference). -/
def Obligations.ConfigurationIsFrozenInRunning : Prop :=
  ∀ s t : State, s.regs.phase = .running → ¬ resets s → step s = .next t →
    t.regs.structureMode = s.regs.structureMode ∧ t.regs.framing = s.regs.framing ∧
      t.regs.crc4Req = s.regs.crc4Req ∧ t.regs.silence = s.regs.silence ∧
      t.regs.bindValid = s.regs.bindValid ∧ t.regs.bindChan = s.regs.bindChan

/-- The phase goes from CONFIG to RUNNING by INIT, from CONFIG to FAILED by BIND or INIT, and from any phase to
CONFIG by reset; no other transition exists (R40, R311). -/
def Obligations.PhaseTransitionsAreTheSpecs : Prop :=
  ∀ s t : State, step s = .next t →
    t.regs.phase = s.regs.phase ∨
      (s.regs.phase = .config ∧ t.regs.phase = .running ∧ issues s .init) ∨
      (s.regs.phase = .config ∧ t.regs.phase = .failed ∧
        (issues s .init ∨ ∃ ts chan, issues s (.bind ts chan))) ∨
      (t.regs.phase = .config ∧ resets s)

/-- R48: a timeslot leaves UNBOUND only by a successful INIT, goes from EXT to SILENCE only in a NEXT_BYTE at its
own turn, and returns to UNBOUND only by reset; no other transition exists. -/
def Obligations.TimeslotModeTransitionsAreTheSpecs : Prop :=
  ∀ (s t : State) (u : Timeslot), Inv s → step s = .next t →
    readBank t.regs.mode u = readBank s.regs.mode u ∨
      (readBank s.regs.mode u = .unbound ∧ issues s .init ∧ s.regs.phase = .config ∧ t.regs.phase = .running) ∨
      (readBank s.regs.mode u = .ext ∧ readBank t.regs.mode u = .silence ∧ issues s .nextByte ∧
        s.regs.cursor = u) ∨
      (readBank t.regs.mode u = .unbound ∧ resets s)

/-- No step changes the contents of either ROM, reset included (R75, R352). -/
def Obligations.RomsNeverChange : Prop :=
  ∀ s t : State, step s = .next t → t.roms = s.roms

/-- A CRC-4 request has no effect on any octet, status or other state: two states that differ only in `R.CRC4_REQ`
take the same step but for `R.CRC4_REQ` (R36, R206). -/
def Obligations.CrcRequestHasNoEffect : Prop :=
  ∀ (s : State) (b : Bool),
    mapNext (withCrc4Req false) (step (withCrc4Req b s)) = mapNext (withCrc4Req false) (step s)

/-- Structure codes 1 and 2 have the same effect: two states that differ only in which of them `R.STRUCTURE` holds
take the same step but for `R.STRUCTURE` (R202, C1). -/
def Obligations.Pcm31AndPcm30BehaveAlike : Prop :=
  ∀ s : State,
    mapNext (withStructure 0#2) (step (withStructure 1#2 s)) =
      mapNext (withStructure 0#2) (step (withStructure 2#2 s))

/-- A binding once made stays, with its channel, until reset: `BIND_VALID[u] = 1` stays 1 and `BIND_CHAN[u]` keeps its
value over every step but a reset (R38). -/
def Obligations.BindingsStayUntilReset : Prop :=
  ∀ (s t : State) (u : Timeslot), readBank s.regs.bindValid u = true → ¬ resets s → step s = .next t →
    readBank t.regs.bindValid u = true ∧ readBank t.regs.bindChan u = readBank s.regs.bindChan u
end

