-- ==== Sys2Proof/Laws/Bank.lean ====
section
/-! SUPPORT. Reading and writing banks: a read after a write, and every index is among the ascending ones. -/

namespace Sys2Proof.Machine

variable {k : Nat} {α : Type}

theorem readBank_writeBank (v : Bank k α) (i : BitVec k) (x : α) (j : BitVec k) :
    readBank (writeBank v i x) j = if i = j then x else readBank v j := by
  unfold readBank writeBank
  rw [Vector.getElem_set]
  simp only [BitVec.toNat_inj]

@[simp] theorem readBank_writeBank_self (v : Bank k α) (i : BitVec k) (x : α) :
    readBank (writeBank v i x) i = x := by simp [readBank_writeBank]

theorem readBank_writeBank_ne (v : Bank k α) {i j : BitVec k} (x : α) (h : i ≠ j) :
    readBank (writeBank v i x) j = readBank v j := by simp [readBank_writeBank, h]

theorem bank_ext {v w : Bank k α} (h : ∀ i, readBank v i = readBank w i) : v = w := by
  apply Vector.ext
  intro n hn
  have := h (BitVec.ofNat k n)
  simpa [readBank, Nat.mod_eq_of_lt hn] using this

@[simp] theorem readBank_replicate (x : α) (i : BitVec 5) :
    readBank (Vector.replicate 32 x : Bank 5 α) i = x := by
  unfold readBank
  exact Vector.getElem_replicate _

theorem mem_ascending (t : BitVec 5) : t ∈ ascending := by
  unfold ascending
  refine List.mem_map.2 ⟨t.toNat, List.mem_range.2 t.isLt, by simp⟩

theorem nodup_ascending : ascending.Nodup := by decide

/-- Writing `x i` at every index of a list leaves `x i` there and the rest as it was. -/
theorem readBank_foldl_writeBank (x : BitVec k → α) (is : List (BitVec k)) (v : Bank k α) (j : BitVec k) :
    readBank (is.foldl (fun u i => writeBank u i (x i)) v) j = if j ∈ is then x j else readBank v j := by
  induction is generalizing v with
  | nil => simp
  | cons i is ih =>
    rw [List.foldl_cons, ih, readBank_writeBank]
    by_cases hj : j ∈ is
    · simp [hj]
    · by_cases hi : i = j
      · simp [hi]
      · simp [hj, hi, Ne.symm hi]

end Sys2Proof.Machine
end

