-- ==== Sys2Proof/Laws/State.lean ====
section
/-! SUPPORT. What each named update leaves in each field of State, true by `rfl`. -/

namespace Sys2Proof.Machine

variable (s : State) (e : Event) (c : ChannelId) (t : Timeslot) (f : FrameCount) (b : Bool) (m : Mode)
  (x : ChannelFeed) (w : CommandWord) (input : HostInput)

@[simp] theorem emit_regs : (emit e s).regs = s.regs := rfl
@[simp] theorem emit_roms : (emit e s).roms = s.roms := rfl
@[simp] theorem emit_env : (emit e s).env = { s.env with trace := s.env.trace ++ [e] } := rfl

@[simp] theorem setChanOpen_regs :
    (setChanOpen c b s).regs = { s.regs with chanOpen := writeBank s.regs.chanOpen c b } := rfl
@[simp] theorem setChanOpen_roms : (setChanOpen c b s).roms = s.roms := rfl
@[simp] theorem setChanOpen_env : (setChanOpen c b s).env = s.env := rfl

@[simp] theorem setMode_regs : (setMode t m s).regs = { s.regs with mode := writeBank s.regs.mode t m } := rfl
@[simp] theorem setMode_roms : (setMode t m s).roms = s.roms := rfl
@[simp] theorem setMode_env : (setMode t m s).env = s.env := rfl

@[simp] theorem setFeed_regs : (setFeed c x s).regs = s.regs := rfl
@[simp] theorem setFeed_roms : (setFeed c x s).roms = s.roms := rfl
@[simp] theorem setFeed_env :
    (setFeed c x s).env = { s.env with channels := writeBank s.env.channels c x } := rfl

@[simp] theorem requestOpen_regs : (requestOpen c s).regs = s.regs := rfl
@[simp] theorem requestOpen_roms : (requestOpen c s).roms = s.roms := rfl
@[simp] theorem requestOpen_env :
    (requestOpen c s).env =
      { s.env with
        channels := writeBank s.env.channels c (afterOpen (feed c s))
        trace := s.env.trace ++ [.chanOpen c (openAnswer c s)] } := rfl

@[simp] theorem requestRead_regs : (requestRead c s).regs = s.regs := rfl
@[simp] theorem requestRead_roms : (requestRead c s).roms = s.roms := rfl
@[simp] theorem requestRead_env :
    (requestRead c s).env =
      { s.env with
        channels := writeBank s.env.channels c (afterRead (feed c s))
        trace := s.env.trace ++ [.chanRead c (readAnswer c s)] } := rfl

@[simp] theorem closeChannel_regs :
    (closeChannel c s).regs = { s.regs with chanOpen := writeBank s.regs.chanOpen c false } := rfl
@[simp] theorem closeChannel_roms : (closeChannel c s).roms = s.roms := rfl
@[simp] theorem closeChannel_env :
    (closeChannel c s).env = { s.env with trace := s.env.trace ++ [.chanClose c] } := rfl

@[simp] theorem setBinding_regs :
    (setBinding t c s).regs =
      { s.regs with
        bindValid := writeBank s.regs.bindValid t true
        bindChan := writeBank s.regs.bindChan t c } := rfl
@[simp] theorem setBinding_roms : (setBinding t c s).roms = s.roms := rfl
@[simp] theorem setBinding_env : (setBinding t c s).env = s.env := rfl

@[simp] theorem startRunning_regs :
    (startRunning s).regs = { s.regs with cursor := 0#5, frame := 0#32, phase := .running } := rfl
@[simp] theorem startRunning_roms : (startRunning s).roms = s.roms := rfl
@[simp] theorem startRunning_env : (startRunning s).env = s.env := rfl

@[simp] theorem advance_regs :
    (advance t f s).regs =
      { s.regs with
        cursor := t + 1#5
        frame := if t = 31#5 then f + 1#32 else s.regs.frame } := rfl
@[simp] theorem advance_roms : (advance t f s).roms = s.roms := rfl
@[simp] theorem advance_env : (advance t f s).env = s.env := rfl

@[simp] theorem acceptCommand_regs : (acceptCommand w s).regs = s.regs := rfl
@[simp] theorem acceptCommand_roms : (acceptCommand w s).roms = s.roms := rfl
@[simp] theorem acceptCommand_env :
    (acceptCommand w s).env = { s.env with trace := s.env.trace ++ [.cmd w] } := rfl

@[simp] theorem dropInput_regs : (dropInput s).regs = s.regs := rfl
@[simp] theorem dropInput_roms : (dropInput s).roms = s.roms := rfl
@[simp] theorem dropInput_env : (dropInput s).env = { s.env with inputs := s.env.inputs.tail } := rfl

@[simp] theorem queueInput_regs : (queueInput input s).regs = s.regs := rfl
@[simp] theorem queueInput_roms : (queueInput input s).roms = s.roms := rfl
@[simp] theorem queueInput_env :
    (queueInput input s).env = { s.env with inputs := input :: s.env.inputs } := rfl

@[simp] theorem applyReset_regs : (applyReset s).regs = Regs.reset := rfl

end Sys2Proof.Machine
end

