-- ==== Sys2Proof/Laws/Ops.lean ====
section
/-! SUPPORT. For each shared operation, once, everything it can do. -/

namespace Sys2Proof.Machine

variable {s t : State} {status : Status} {data : Byte}

@[simp] theorem respond_eq_next :
    respond status data s = .next t ↔ emit (.resp (respWord status data)) s = t := by
  simp [respond]

/-- The response word gives its two fields back (R120). -/
theorem respWord_fields (status : Status) (data : Byte) :
    (respWord status data).extractLsb' 8 3 = statusCode status ∧
      (respWord status data).setWidth 8 = data := by
  constructor
  · ext i hi
    simp [respWord, show 8 + i < 11 by omega, BitVec.getLsbD_eq_getElem hi]
  · ext i hi
    simp [respWord]

theorem statusCode_injective {a b : Status} (h : statusCode a = statusCode b) : a = b := by
  revert h
  cases a <;> cases b <;> decide

theorem respWord_injective {a b : Status} {d d' : Byte} (h : respWord a d = respWord b d') : a = b ∧ d = d' := by
  have ha := respWord_fields a d
  have hb := respWord_fields b d'
  rw [h] at ha
  exact ⟨statusCode_injective (ha.1.symm.trans hb.1), ha.2.symm.trans hb.2⟩

theorem lastEvent_emit (e : Event) (s : State) : (emit e s).env.trace.getLast? = some e := by simp

theorem inPhase_admitted {p : Phase} {body : State → Result} (h : s.regs.phase = p) (hp : p ≠ .failed) :
    inPhase p body s = body s := by
  unfold inPhase
  rw [if_neg (by rw [h]; exact hp), if_neg (by simp [h])]

theorem inPhase_failed {p : Phase} {body : State → Result} (h : s.regs.phase = .failed) :
    inPhase p body s = respond .errFailed 0#8 s := by simp [inPhase, h]

theorem inPhase_wrong {p : Phase} {body : State → Result} (h : s.regs.phase ≠ p) (hf : s.regs.phase ≠ .failed) :
    inPhase p body s = respond .errPhase 0#8 s := by simp [inPhase, h, hf]

/-- The phase check answers ERR_FAILED, ERR_PHASE, or what the command's own work answers. -/
theorem inPhase_cases {p : Phase} {body : State → Result} (s : State) :
    (s.regs.phase = .failed ∧ inPhase p body s = respond .errFailed 0#8 s) ∨
      (s.regs.phase ≠ .failed ∧ s.regs.phase ≠ p ∧ inPhase p body s = respond .errPhase 0#8 s) ∨
        (s.regs.phase ≠ .failed ∧ s.regs.phase = p ∧ inPhase p body s = body s) := by
  by_cases hf : s.regs.phase = .failed
  · exact .inl ⟨hf, inPhase_failed hf⟩
  by_cases hp : s.regs.phase = p
  · exact .inr (.inr ⟨hf, hp, inPhase_admitted hp (hp ▸ hf)⟩)
  · exact .inr (.inl ⟨hf, hp, inPhase_wrong hp hf⟩)

/-- Fatal entry always answers: the failed phase, the cause, one response, nothing else (R310). -/
theorem fatal_eq (code : Status) (s : State) :
    fatal code s = .next
      { s with
        regs := { s.regs with phase := .failed, failCause := statusCode code }
        env := { s.env with trace := s.env.trace ++ [.resp (respWord code 0#8)] } } := rfl

theorem feed_setFeed (c d : ChannelId) (x : ChannelFeed) (s : State) :
    feed d (setFeed c x s) = if c = d then x else feed d s := by
  simp [feed, readBank_writeBank]

theorem feed_requestOpen (c d : ChannelId) (s : State) :
    feed d (requestOpen c s) = if c = d then afterOpen (feed c s) else feed d s := by
  simp [feed, readBank_writeBank]

theorem feed_requestRead (c d : ChannelId) (s : State) :
    feed d (requestRead c s) = if c = d then afterRead (feed c s) else feed d s := by
  simp [feed, readBank_writeBank]

/-- A fold of events leaves everything but the trace alone. -/
theorem foldl_emit (p : ChannelId → Bool) (cs : List ChannelId) (s : State)
    (hp : ∀ u : State, u.regs = s.regs → ∀ c, readBank u.regs.chanOpen c = p c) :
    cs.foldl (fun u c => if readBank u.regs.chanOpen c then emit (.chanClose c) u else u) s =
      { s with env := { s.env with trace := s.env.trace ++ (cs.filter p).map .chanClose } } := by
  induction cs generalizing s with
  | nil => simp
  | cons c cs ih =>
    rw [List.foldl_cons, hp s rfl c]
    cases h : p c
    · simp [ih s hp, h]
    · have := ih (emit (.chanClose c) s) (fun u hu => hp u (by simpa using hu))
      simp [this, h]

/-- Reset (R350): the registers at their reset values, one `ChanClose` for each open channel in ascending order,
nothing else. -/
theorem applyReset_eq (s : State) :
    applyReset s =
      { regs := Regs.reset
        roms := s.roms
        env := { s.env with
          trace := s.env.trace ++
            (ascending.filter fun c => readBank s.regs.chanOpen c).map .chanClose } } := by
  unfold applyReset
  rw [foldl_emit (fun c => readBank s.regs.chanOpen c) ascending s (fun u hu c => by rw [hu])]

end Sys2Proof.Machine
end

