-- ==== Sys2Proof/Laws/Source.lean ====
section
/-! SUPPORT. Everything the degrade, the external source and the source selector can do, once. -/

namespace Sys2Proof.Machine

variable (t : Timeslot) (c : ChannelId) (f : FrameCount) (s : State)

/-- Closing a channel that is already closed changes no register. -/
theorem writeBank_closed {v : Bank 5 Bool} (h : readBank v c = false) : writeBank v c false = v := by
  apply bank_ext
  intro i
  rw [readBank_writeBank]
  split
  · next hi => rw [← hi, h]
  · rfl

/-- Degrade (R178): the mode and the channel's open bit, then at most one close and exactly one diagnostic. -/
theorem degrade_eq (reason : DiagReason) :
    degrade t c reason s =
      (s.regs.silence,
        { s with
          regs := { s.regs with
            mode := writeBank s.regs.mode t .silence
            chanOpen := writeBank s.regs.chanOpen c false }
          env := { s.env with
            trace := s.env.trace ++ (if readBank s.regs.chanOpen c then [.chanClose c] else []) ++
              [.diag t c reason] } }) := by
  unfold degrade silenceOctet
  cases h : readBank s.regs.chanOpen c
  · simp only [setMode_regs, h, writeBank_closed c h]
    simp [emit, setMode]
  · simp [emit, setMode, closeChannel, setChanOpen, h]

/-- The external source with an open channel that answers an octet: the octet, and only the channel moves (R176). -/
theorem extOctet_data {b : Byte} (ho : readBank s.regs.chanOpen (readBank s.regs.bindChan t) = true)
    (ha : readAnswer (readBank s.regs.bindChan t) s = .data b) :
    extOctet t s = (b, requestRead (readBank s.regs.bindChan t) s) := by
  simp [extOctet, ho, ha]

/-- The external source with an open channel that ends: the timeslot degrades (R176). -/
theorem extOctet_ended {reason : EndReason} (ho : readBank s.regs.chanOpen (readBank s.regs.bindChan t) = true)
    (ha : readAnswer (readBank s.regs.bindChan t) s = .ended reason) :
    extOctet t s =
      degrade t (readBank s.regs.bindChan t) (diagReason reason) (requestRead (readBank s.regs.bindChan t) s) := by
  simp [extOctet, ho, ha]

/-- The external source with a closed channel: no request, the timeslot degrades (R177). -/
theorem extOctet_closed (ho : readBank s.regs.chanOpen (readBank s.regs.bindChan t) = false) :
    extOctet t s = degrade t (readBank s.regs.bindChan t) .closed s := by
  simp [extOctet, ho]

/-- The external source either gives the channel's octet or degrades its timeslot to silence; in both cases the
registers, the ROMs and the inputs still to come are as said here, and no response is made. -/
theorem extOctet_cases :
    (∃ b, extOctet t s = (b, requestRead (readBank s.regs.bindChan t) s) ∧
        readAnswer (readBank s.regs.bindChan t) s = .data b ∧
        readBank s.regs.chanOpen (readBank s.regs.bindChan t) = true) ∨
      ∃ reason s₁, extOctet t s = degrade t (readBank s.regs.bindChan t) reason s₁ ∧
        ((s₁ = s ∧ readBank s.regs.chanOpen (readBank s.regs.bindChan t) = false) ∨
          (s₁ = requestRead (readBank s.regs.bindChan t) s ∧
            readBank s.regs.chanOpen (readBank s.regs.bindChan t) = true)) := by
  cases ho : readBank s.regs.chanOpen (readBank s.regs.bindChan t)
  · exact .inr ⟨_, s, extOctet_closed t s ho, .inl ⟨rfl, rfl⟩⟩
  · cases ha : readAnswer (readBank s.regs.bindChan t) s with
    | data b => exact .inl ⟨b, extOctet_data t s ho ha, rfl, rfl⟩
    | ended reason => exact .inr ⟨_, _, extOctet_ended t s ho ha, .inr ⟨rfl, rfl⟩⟩

/-- What the selected source leaves behind: the octet's timeslot may have degraded, its channel may have moved or
been closed, and nothing else has changed. -/
theorem produce_regs {b : Byte} {u : State} (h : produce t f s = .ok (b, u)) :
    u.roms = s.roms ∧ u.env.inputs = s.env.inputs ∧
      (u.regs = s.regs ∨
        readBank s.regs.mode t = .ext ∧ b = s.regs.silence ∧
          u.regs = { s.regs with
            mode := writeBank s.regs.mode t .silence
            chanOpen := writeBank s.regs.chanOpen (readBank s.regs.bindChan t) false }) := by
  unfold produce at h
  split at h
  · cases h; exact ⟨rfl, rfl, .inl rfl⟩
  · cases h; exact ⟨rfl, rfl, .inl rfl⟩
  · next hm =>
    obtain ⟨b', he, -, -⟩ | ⟨reason, s₁, he, hs⟩ := extOctet_cases t s
    · rw [he] at h; cases h; exact ⟨rfl, rfl, .inl rfl⟩
    · rw [he, degrade_eq] at h
      obtain ⟨rfl, -⟩ | ⟨rfl, -⟩ := hs <;> cases h <;> exact ⟨rfl, rfl, .inr ⟨hm, rfl, rfl⟩⟩
  · cases h

/-- The selector stops only at an UNBOUND timeslot (R175). -/
theorem produce_ok (h : readBank s.regs.mode t ≠ .unbound) : ∃ b u, produce t f s = .ok (b, u) := by
  unfold produce
  split
  · exact ⟨_, _, rfl⟩
  · exact ⟨_, _, rfl⟩
  · exact ⟨_, _, rfl⟩
  · next hm => exact absurd hm h

end Sys2Proof.Machine
end

