-- ==== Sys2Proof/Laws/Engine.lean ====
section
/-! SUPPORT. Everything INIT's loops and NEXT_BYTE can do, once. -/

namespace Sys2Proof.Machine

/-- Open the channels `cs` in order, every one answering OK. -/
def openAll (cs : List ChannelId) (s : State) : State :=
  cs.foldl (fun u c => setChanOpen c true (requestOpen c u)) s

/-- The channels of `cs` not among `opened`, each once, in the order they first stand there. -/
def newChannels : List ChannelId → List ChannelId → List ChannelId
  | [], _ => []
  | c :: cs, opened => if c ∈ opened then newChannels cs opened else c :: newChannels cs (opened ++ [c])

theorem newChannels_eq (cs opened : List ChannelId) :
    newChannels cs opened = (cs.filter fun c => decide (c ∉ opened)).eraseDups := by
  induction cs generalizing opened with
  | nil => rfl
  | cons c cs ih =>
    unfold newChannels
    split
    · next h => rw [ih, List.filter_cons_of_neg (by simpa using h)]
    · next h =>
      rw [ih, List.filter_cons_of_pos (by simpa using h), List.eraseDups_cons, List.filter_filter]
      congr 2
      apply List.filter_congr
      intro d _
      by_cases hd : d = c <;> simp [hd]

/-- The channels the timeslots of `ts` are bound to. -/
def boundOf (r : Regs) (ts : List Timeslot) : List ChannelId :=
  (ts.filter fun t => readBank r.bindValid t).map fun t => readBank r.bindChan t

theorem boundChannels_eq (r : Regs) : boundChannels r = newChannels (boundOf r ascending) [] := by
  rw [newChannels_eq]
  simp [boundChannels, boundOf]

theorem mem_boundChannels {r : Regs} {c : ChannelId} :
    c ∈ boundChannels r ↔ ∃ t, readBank r.bindValid t = true ∧ readBank r.bindChan t = c := by
  simp [boundChannels, List.mem_eraseDups, mem_ascending]

theorem newChannels_disjoint {cs opened : List ChannelId} {c : ChannelId} (h : c ∈ newChannels cs opened) :
    c ∉ opened := by
  rw [newChannels_eq, List.mem_eraseDups, List.mem_filter] at h
  simpa using h.2

/-- Opening one channel leaves the answers of every other as they were. -/
theorem openAnswer_after {c d : ChannelId} (h : c ≠ d) (s : State) :
    openAnswer d (setChanOpen c true (requestOpen c s)) = openAnswer d s := by
  have : feed d (setChanOpen c true (requestOpen c s)) = feed d s :=
    (feed_requestOpen c d s).trans (if_neg h)
  simp [openAnswer, this]

/-- INIT's opening loop when every channel still to open answers OK (R240). -/
theorem openBound_ok {r : Regs} (ts : List Timeslot) (opened : List ChannelId) (s : State)
    (hv : s.regs.bindValid = r.bindValid) (hc : s.regs.bindChan = r.bindChan)
    (h : ∀ c ∈ newChannels (boundOf r ts) opened, openAnswer c s = .ok) :
    openBound ts opened s = .allOpen (openAll (newChannels (boundOf r ts) opened) s) := by
  induction ts generalizing opened s with
  | nil => rfl
  | cons t ts ih =>
    unfold openBound
    rw [hv, hc]
    cases hb : readBank r.bindValid t
    · have hbo : boundOf r (t :: ts) = boundOf r ts := by simp [boundOf, hb]
      rw [hbo] at h ⊢
      simpa using ih opened s hv hc h
    · have hbo : boundOf r (t :: ts) = readBank r.bindChan t :: boundOf r ts := by simp [boundOf, hb]
      rw [hbo] at h ⊢
      by_cases hm : readBank r.bindChan t ∈ opened
      · simp only [newChannels, hm, if_true] at h ⊢
        exact ih opened s hv hc h
      · simp only [newChannels, hm, if_false] at h ⊢
        rw [if_pos trivial, h _ (List.mem_cons_self ..)]
        refine ih _ _ hv hc fun d hd => ?_
        rw [openAnswer_after (fun e => newChannels_disjoint hd (by simp [e]))]
        exact h d (List.mem_cons_of_mem _ hd)

/-- INIT's opening loop when `c` is the first channel that answers FAIL (R244). -/
theorem openBound_fail {r : Regs} (ts : List Timeslot) (opened : List ChannelId) (s : State)
    (hv : s.regs.bindValid = r.bindValid) (hc : s.regs.bindChan = r.bindChan)
    {before after : List ChannelId} {c : ChannelId}
    (hn : newChannels (boundOf r ts) opened = before ++ c :: after)
    (hok : ∀ d ∈ before, openAnswer d s = .ok) (hfail : openAnswer c s = .fail) :
    openBound ts opened s = .failedAfter (opened ++ before) (requestOpen c (openAll before s)) := by
  induction ts generalizing opened s before with
  | nil => simp [boundOf, newChannels] at hn
  | cons t ts ih =>
    unfold openBound
    rw [hv, hc]
    cases hb : readBank r.bindValid t
    · have hbo : boundOf r (t :: ts) = boundOf r ts := by simp [boundOf, hb]
      rw [hbo] at hn
      simpa using ih opened s hv hc hn hok hfail
    · have hbo : boundOf r (t :: ts) = readBank r.bindChan t :: boundOf r ts := by simp [boundOf, hb]
      rw [hbo] at hn
      by_cases hm : readBank r.bindChan t ∈ opened
      · simp only [newChannels, hm, if_true] at hn ⊢
        exact ih opened s hv hc hn hok hfail
      · simp only [newChannels, hm, if_false] at hn ⊢
        rw [if_pos trivial]
        cases before with
        | nil =>
          obtain ⟨hct, -⟩ := List.cons.inj hn
          simp [hct, hfail, openAll]
        | cons d before =>
          obtain ⟨hdt, hrest⟩ := List.cons.inj hn
          change _ = before ++ c :: after at hrest
          have hdisj : ∀ e ∈ before ++ c :: after, readBank r.bindChan t ≠ e := by
            intro e he heq
            rw [← hrest] at he
            exact newChannels_disjoint he (by simp [heq])
          rw [hdt, hok d (List.mem_cons_self ..)]
          rw [hdt] at hrest hdisj
          have := ih (opened ++ [d]) (setChanOpen d true (requestOpen d s)) hv hc hrest
            (fun e he => by
              rw [openAnswer_after (hdisj e (by simp [he]))]
              exact hok e (List.mem_cons_of_mem _ he))
            (by rw [openAnswer_after (hdisj c (by simp))]; exact hfail)
          rw [List.append_assoc, List.singleton_append] at this
          exact this

/-- Opening `cs` in order: each is asked once and its open bit set (R242). -/
theorem openAll_eq (cs : List ChannelId) (s : State) (hd : cs.Nodup) (hok : ∀ c ∈ cs, openAnswer c s = .ok) :
    (openAll cs s).regs = { s.regs with chanOpen := cs.foldl (fun v c => writeBank v c true) s.regs.chanOpen } ∧
      (openAll cs s).roms = s.roms ∧ (openAll cs s).env.inputs = s.env.inputs ∧
      (∀ d, feed d (openAll cs s) = if d ∈ cs then afterOpen (feed d s) else feed d s) ∧
      (openAll cs s).env.trace = s.env.trace ++ cs.map fun c => .chanOpen c .ok := by
  induction cs generalizing s with
  | nil => simp [openAll]
  | cons c cs ih =>
    rw [List.nodup_cons] at hd
    obtain ⟨hr, hro, hi, hf, ht⟩ := ih (setChanOpen c true (requestOpen c s)) hd.2 (fun d hdm => by
      rw [openAnswer_after (show c ≠ d from fun e => hd.1 (e.symm ▸ hdm))]
      exact hok d (List.mem_cons_of_mem _ hdm))
    have hstep : openAll (c :: cs) s = openAll cs (setChanOpen c true (requestOpen c s)) := rfl
    rw [hstep]
    refine ⟨hr.trans rfl, hro.trans rfl, hi.trans rfl, fun d => ?_, ?_⟩
    · rw [hf d, show feed d (setChanOpen c true (requestOpen c s)) = _ from feed_requestOpen c d s]
      by_cases hdc : d = c
      · subst hdc; simp [hd.1]
      · simp [hdc, Ne.symm hdc]
    · rw [ht]
      simp [hok c (List.mem_cons_self ..)]

/-- Closing `cs` in order: one `ChanClose` each, its open bit cleared (R244). -/
theorem closeAll_eq (cs : List ChannelId) (s : State) :
    closeAll cs s =
      { s with
        regs := { s.regs with chanOpen := cs.foldl (fun v c => writeBank v c false) s.regs.chanOpen }
        env := { s.env with trace := s.env.trace ++ cs.map .chanClose } } := by
  unfold closeAll
  induction cs generalizing s with
  | nil => simp
  | cons c cs ih =>
    rw [List.foldl_cons, ih]
    simp

/-- INIT's second step gives every timeslot the mode of R245 and changes nothing else. -/
theorem assignModes_eq (s : State) :
    assignModes s =
      { s with
        regs := { s.regs with
          mode := ascending.foldl (fun v t => writeBank v t (assignedMode s.regs t)) s.regs.mode } } := by
  unfold assignModes
  have key : ∀ (ts : List Timeslot) (u : State), assignedMode u.regs = assignedMode s.regs →
      ts.foldl (fun u t => setMode t (assignedMode u.regs t) u) u =
        { u with regs := { u.regs with
            mode := ts.foldl (fun v t => writeBank v t (assignedMode s.regs t)) u.regs.mode } } := by
    intro ts
    induction ts with
    | nil => intro u _; rfl
    | cons t ts ih =>
      intro u hu
      rw [List.foldl_cons, ih (setMode t (assignedMode u.regs t) u) hu, hu]
      rfl
  exact key ascending s rfl

theorem assignModes_mode (s : State) (t : Timeslot) :
    readBank (assignModes s).regs.mode t = assignedMode s.regs t := by
  simp [assignModes_eq, readBank_foldl_writeBank (assignedMode s.regs), mem_ascending]

theorem nodup_newChannels (cs opened : List ChannelId) : (newChannels cs opened).Nodup := by
  induction cs generalizing opened with
  | nil => exact List.nodup_nil
  | cons c cs ih =>
    unfold newChannels
    split
    · exact ih opened
    · exact List.nodup_cons.2 ⟨fun h => newChannels_disjoint h (by simp), ih _⟩

theorem nodup_boundChannels (r : Regs) : (boundChannels r).Nodup := by
  rw [boundChannels_eq]
  exact nodup_newChannels _ _

/-- NEXT_BYTE in RUNNING, once the selected source has given its octet (R255). -/
theorem execNextByte_of_produce {s u : State} {b : Byte} (hp : s.regs.phase = .running)
    (h : produce s.regs.cursor s.regs.frame s = .ok (b, u)) :
    exec .nextByte s = .next (emit (.resp (respWord .ok b)) (advance s.regs.cursor s.regs.frame u)) := by
  show execNextByte s = _
  unfold execNextByte
  rw [inPhase_admitted hp (by decide)]
  simp only [h]
  rfl

/-- NEXT_BYTE answers a next state in three ways: refused by phase, or one octet of the cursor's timeslot. -/
theorem execNextByte_cases {s t : State} (h : exec .nextByte s = .next t) :
    (s.regs.phase = .failed ∧ t = emit (.resp (respWord .errFailed 0#8)) s) ∨
      (s.regs.phase = .config ∧ t = emit (.resp (respWord .errPhase 0#8)) s) ∨
        (s.regs.phase = .running ∧ ∃ b u, produce s.regs.cursor s.regs.frame s = .ok (b, u) ∧
          t = emit (.resp (respWord .ok b)) (advance s.regs.cursor s.regs.frame u)) := by
  change execNextByte s = _ at h
  unfold execNextByte at h
  obtain ⟨hp, he⟩ | ⟨hf, hp, he⟩ | ⟨-, hp, he⟩ := inPhase_cases (p := .running) (body := fun s =>
      match produce s.regs.cursor s.regs.frame s with
      | .ok (b, s') => respond .ok b (advance s.regs.cursor s.regs.frame s')
      | .error e => .fault e) s
  · exact .inl ⟨hp, (respond_eq_next.1 (he.symm.trans h)).symm⟩
  · refine .inr (.inl ⟨?_, (respond_eq_next.1 (he.symm.trans h)).symm⟩)
    cases hq : s.regs.phase <;> simp_all
  · replace h := he.symm.trans h
    refine .inr (.inr ⟨hp, ?_⟩)
    split at h
    · next b u hpr => exact ⟨b, u, hpr, (respond_eq_next.1 h).symm⟩
    · cases h

end Sys2Proof.Machine
end

