-- ==== Sys2Proof/Laws/Commands.lean ====
section
/-! SUPPORT. Each command's meaning opened once: what `exec` is for it, and, for those that can go several ways, the
cases. -/

namespace Sys2Proof.Machine

variable {s t : State}

/-- A write of one value at every index of a list. -/
theorem readBank_foldl_const (b : Bool) (cs : List ChannelId) (v : Bank 5 Bool) (j : ChannelId) :
    readBank (cs.foldl (fun v c => writeBank v c b) v) j = if j ∈ cs then b else readBank v j :=
  readBank_foldl_writeBank (fun _ => b) cs v j

/-- If a phase-checked command answers a next state, that is a refusal's, or its own work's in its phase. -/
theorem inPhase_eq_next {p : Phase} {body : State → Result} (h : inPhase p body s = .next t) :
    (s.regs.phase = .failed ∧ t = emit (.resp (respWord .errFailed 0#8)) s) ∨
      (s.regs.phase ≠ p ∧ s.regs.phase ≠ .failed ∧ t = emit (.resp (respWord .errPhase 0#8)) s) ∨
        (s.regs.phase = p ∧ s.regs.phase ≠ .failed ∧ body s = .next t) := by
  obtain ⟨hp, he⟩ | ⟨hf, hp, he⟩ | ⟨hf, hp, he⟩ := inPhase_cases (p := p) (body := body) s
  · rw [he, respond_eq_next] at h
    exact .inl ⟨hp, h.symm⟩
  · rw [he, respond_eq_next] at h
    exact .inr (.inl ⟨hp, hf, h.symm⟩)
  · rw [he] at h
    exact .inr (.inr ⟨hp, hf, h⟩)

/-- Either every channel of a list answers OK, or there is a first one that answers FAIL. -/
theorem answers_split (s : State) (cs : List ChannelId) :
    (∀ c ∈ cs, openAnswer c s = .ok) ∨
      ∃ before c after, cs = before ++ c :: after ∧ (∀ d ∈ before, openAnswer d s = .ok) ∧
        openAnswer c s = .fail := by
  induction cs with
  | nil => exact .inl (by simp)
  | cons c cs ih =>
    cases h : openAnswer c s with
    | fail => exact .inr ⟨[], c, cs, rfl, by simp, h⟩
    | ok =>
      obtain ih | ⟨before, d, after, rfl, hok, hfail⟩ := ih
      · exact .inl (by simpa [h] using ih)
      · exact .inr ⟨c :: before, d, after, rfl, by simpa [h] using hok, hfail⟩

/-- INIT's own work: all bound channels open, or the first that answers FAIL undoes the opens (R240, R244). -/
theorem initWork_cases (s : State) (hp : s.regs.phase = .config) :
    ((∀ c ∈ boundChannels s.regs, openAnswer c s = .ok) ∧
        exec .init s = .next (emit (.resp (respWord .ok 0#8))
          (startRunning (assignModes (openAll (boundChannels s.regs) s))))) ∨
      ∃ before c after, boundChannels s.regs = before ++ c :: after ∧ (∀ d ∈ before, openAnswer d s = .ok) ∧
        openAnswer c s = .fail ∧
          exec .init s = fatal .errOpen (closeAll before (requestOpen c (openAll before s))) := by
  have hexec : exec .init s = execInit s := rfl
  rw [hexec]
  unfold execInit
  rw [inPhase_admitted hp (by decide)]
  obtain hok | ⟨before, c, after, hb, hok, hfail⟩ := answers_split s (boundChannels s.regs)
  · refine .inl ⟨hok, ?_⟩
    rw [boundChannels_eq] at hok ⊢
    rw [openBound_ok (r := s.regs) ascending [] s rfl rfl hok]
    rfl
  · refine .inr ⟨before, c, after, hb, hok, hfail, ?_⟩
    rw [boundChannels_eq] at hb
    rw [openBound_fail (r := s.regs) ascending [] s rfl rfl hb hok hfail]
    rfl

/-- What a legal ALIGN_ROM is, entry by entry (R144). -/
theorem alignRomLegal_iff (rom : Bank 4 Byte) :
    alignRomLegal rom = true ↔ ∀ i, readBank rom i &&& 0x7F#8 = 0#8 := by
  unfold alignRomLegal readBank
  rw [List.all_eq_true]
  constructor
  · intro h i
    simpa using h (rom[i.toNat]'i.isLt) (by simp)
  · intro h e he
    obtain ⟨n, hn, rfl⟩ := List.getElem_of_mem he
    have hn' : n < 16 := by simpa using hn
    simpa [Nat.mod_eq_of_lt hn'] using h (BitVec.ofNat 4 n)

/-- A state that differs from one of the invariant only in its environment meets the invariant. -/
theorem Inv.of_same_engine (h : Inv s) (hregs : t.regs = s.regs) (hroms : t.roms = s.roms) : Inv t := by
  obtain ⟨h₁, h₂, h₃, h₄, h₅, h₆, h₇, h₈, h₉, h₁₀⟩ := h
  constructor <;> (try rw [hregs]) <;> (try rw [hroms]) <;> assumption

/-- What a step is, input by input. -/
theorem step_cases (h : step s = .next t) :
    (s.env.inputs = [] ∧ t = s) ∨
      (∃ rest, s.env.inputs = .reset :: rest ∧ t = applyReset (dropInput s)) ∨
        ∃ w rest, s.env.inputs = .command w :: rest ∧
          executeWord w (acceptCommand w (dropInput s)) = .next t := by
  unfold step at h
  split at h
  · split at h
    · next hi => cases h; exact .inl ⟨hi, rfl⟩
    · next input rest hi =>
      cases input with
      | reset => cases h; exact .inr (.inl ⟨rest, hi, rfl⟩)
      | command w => exact .inr (.inr ⟨w, rest, hi, h⟩)
  · cases h

end Sys2Proof.Machine
end

