-- ==== Sys2Proof/Laws/PerInstr.lean ====
section
/-! SUPPORT. A family of lemmas about every command as syntax, one lemma per constructor: the encoded word
matches the command's row of spec/opcode_table.json. -/

namespace Sys2Proof.Laws.TableRow

/-- The row's `mask` in spec/opcode_table.json: the bits the row fixes. -/
def mask : Instr → CommandWord
  | .setStructure _ => 0xFFFFFFFC#32
  | .setFraming _ _ => 0xFFFFFFFC#32
  | .setSilence _ => 0xFFFFFF00#32
  | .bind _ _ => 0xFF00FFE0#32
  | .init => 0xFFFFFFFF#32
  | .nextByte => 0xFFFFFFFF#32
  | .readStatus => 0xFFFFFFFF#32
  | .readCursor => 0xFFFFFFFF#32
  | .readFrame _ => 0xFFFFFFFC#32
  | .readTsMode _ => 0xFFFFFFE0#32

/-- The row's `match` in spec/opcode_table.json: what the fixed bits are. -/
def pattern : Instr → CommandWord
  | .setStructure _ => 0x10000000#32
  | .setFraming _ _ => 0x20000000#32
  | .setSilence _ => 0x30000000#32
  | .bind _ _ => 0x40000000#32
  | .init => 0x50000000#32
  | .nextByte => 0x60000000#32
  | .readStatus => 0x70000000#32
  | .readCursor => 0x71000000#32
  | .readFrame _ => 0x72000000#32
  | .readTsMode _ => 0x73000000#32

/-- The encoded command has its row's fixed bits. -/
def Statement (i : Instr) : Prop := encode i &&& mask i = pattern i

theorem setStructure (struct : BitVec 2) : Statement (.setStructure struct) := by
  unfold Statement; revert struct; decide

theorem setFraming (frm : FramingMode) (crc4 : Bool) : Statement (.setFraming frm crc4) := by
  unfold Statement; cases frm <;> cases crc4 <;> decide

theorem setSilence (sil : Byte) : Statement (.setSilence sil) := by
  unfold Statement; revert sil; decide

/-- The two operands of BIND lie in the bits the row leaves free, so the fixed bits do not depend on them. -/
theorem bind (ts : BitVec 8) (chan : ChannelId) : Statement (.bind ts chan) := by
  have hts : (ts.setWidth 32 <<< 16) &&& 0xFF00FFE0#32 = 0#32 := by revert ts; decide
  have hchan : chan.setWidth 32 &&& 0xFF00FFE0#32 = 0#32 := by revert chan; decide
  have split : ∀ a b c m : BitVec 32, (a ||| b ||| c) &&& m = (a &&& m) ||| (b &&& m) ||| (c &&& m) := by
    intro a b c m
    ext i hi
    simp [Bool.and_or_distrib_right]
  show (opBits 4#4 ||| (ts.setWidth 32 <<< 16) ||| chan.setWidth 32) &&& 0xFF00FFE0#32 = _
  rw [split, hts, hchan]
  rfl

theorem init : Statement .init := by unfold Statement; decide

theorem nextByte : Statement .nextByte := by unfold Statement; decide

theorem readStatus : Statement .readStatus := by unfold Statement; decide

theorem readCursor : Statement .readCursor := by unfold Statement; decide

theorem readFrame (k : BitVec 2) : Statement (.readFrame k) := by
  unfold Statement; revert k; decide

theorem readTsMode (ts5 : Timeslot) : Statement (.readTsMode ts5) := by
  unfold Statement; revert ts5; decide

end Sys2Proof.Laws.TableRow
end

