-- ==== Sys2Proof/Tests/Slice0.lean ====
section
/-! SUPPORT. The model's own tests: words written out from the spec's encodings, one-step vectors of
95_test_vectors.md, and for every statement with hypotheses a state and operands that meet them. -/

namespace Sys2Proof.Tests

open Sys2Proof Sys2Proof.Machine

/-! ## Syntax and decoding -/

/-- R115: the one check WellFormed makes refuses the reserved structure code, and nothing next to it. -/
theorem test_wellFormed_refuses_struct_three :
    WellFormed (.setStructure 3#2) = false ∧ WellFormed (.setStructure 2#2) = true := by decide

/-- V4: format S, bits `0001 | 26 zeros | 10`. -/
theorem test_decode_setStructure : decode 0b00010000000000000000000000000010#32 = .ok (.setStructure 2#2) := by decide

/-- V7: format F, bits `0010 | 26 zeros | CRC4 = 1 | FRM = 0`: which bit is which. -/
theorem test_decode_setFraming :
    decode 0b00100000000000000000000000000010#32 = .ok (.setFraming .doubleFrame true) := by decide

/-- V38: format B, bits `0011 | 20 zeros | 0001 1011`. -/
theorem test_decode_setSilence : decode 0b00110000000000000000000000011011#32 = .ok (.setSilence 0x1B#8) := by decide

/-- V12: format T, bits `0100 | 0000 | 0001 1111 | 11 zeros | 1 1111`. -/
theorem test_decode_bind : decode 0b01000000000111110000000000011111#32 = .ok (.bind 31#8 31#5) := by decide

/-- V16: format N, `0101` and 28 zeros. -/
theorem test_decode_init : decode 0b01010000000000000000000000000000#32 = .ok .init := by decide

/-- V17: format N, `0110` and 28 zeros. -/
theorem test_decode_nextByte : decode 0b01100000000000000000000000000000#32 = .ok .nextByte := by decide

/-- V18: format R, SEL 0. -/
theorem test_decode_readStatus : decode 0b01110000000000000000000000000000#32 = .ok .readStatus := by decide

/-- V19: format R, SEL 1. -/
theorem test_decode_readCursor : decode 0b01110001000000000000000000000000#32 = .ok .readCursor := by decide

/-- V20: format R, SEL 2, K = 3. -/
theorem test_decode_readFrame : decode 0b01110010000000000000000000000011#32 = .ok (.readFrame 3#2) := by decide

/-- V21: format R, SEL 3, TS5 = 16. -/
theorem test_decode_readTsMode : decode 0b01110011000000000000000000010000#32 = .ok (.readTsMode 16#5) := by decide

/-- V1, V5, V6, V14, V15, V21, V22: each reason to refuse a word, by name. -/
theorem test_decode_refusals :
    decode 0x00000000#32 = .error .reservedOpcode ∧ decode 0x80000000#32 = .error .reservedOpcode ∧
      decode 0x10000003#32 = .error .reservedValue ∧ decode 0x10000004#32 = .error .reservedField ∧
      decode 0x41000000#32 = .error .reservedField ∧ decode 0x40000020#32 = .error .reservedField ∧
      decode 0x73000020#32 = .error .reservedField ∧ decode 0x74000000#32 = .error .reservedSelector := by decide

/-- The table's numbering: the row of READ_TSMODE with TS5 = 16, and a word that no row has. -/
theorem test_decodeTableWord :
    decodeTableWord 32 0x73000010 = some (.readTsMode 16#5) ∧ decodeTableWord 32 0 = none := by decide

/-- R119's examples: a line with its optional operand, and an operand out of range. -/
theorem test_assemble :
    assemble ⟨"SET_FRAMING", [.name "multi", .name "crc4"]⟩ = some 0x20000003#32 ∧
      assemble ⟨"BIND", [.number 40, .number 0]⟩ = some 0x40280000#32 ∧
      assemble ⟨"SET_STRUCTURE", [.number 3]⟩ = none := by decide

/-! ## States for the tests -/

/-- An engine in CONFIG whose host next sends `w`. -/
def configWith (w : CommandWord) : State := queueInput (.command w) State.reset

/-- An engine in RUNNING, every timeslot SILENCE, `cursor` and `frame` as given. -/
def runningAt (cursor : Timeslot) (frame : FrameCount) (silence : Byte) : State :=
  { State.reset with
    regs := { Regs.reset with
      phase := .running, mode := Vector.replicate 32 .silence, cursor := cursor, frame := frame, silence := silence } }

/-- The start of V41: timeslot 2 takes its octets from channel 3, which is open and will answer `answers`. -/
def externalAt2 (answers : List ReadAnswer) : State :=
  let s := setMode 2#5 .ext (setBinding 2#5 3#5 (setChanOpen 3#5 true (runningAt 2#5 0#32 0x00#8)))
  setFeed 3#5 { opens := [], reads := answers, requests := 0 } s

/-- The start of V59: as `externalAt2`, the channel closed by another timeslot. -/
def closedAt2 : State := setChanOpen 3#5 false (externalAt2 [])

/-- An engine after a fatal BIND (V43). -/
def failedEngine : State :=
  { State.reset with regs := { Regs.reset with phase := .failed, failCause := 3#3 } }

/-- The start of P6: timeslots 3 and 12 bound to channel 7, 9 to channel 2, 20 to channel 5; channel 7 will open,
channel 2 will answer `second`, channel 5 will open. -/
def boundEngine (second : OpenAnswer) : State :=
  let s := setBinding 20#5 5#5 (setBinding 12#5 7#5 (setBinding 9#5 2#5 (setBinding 3#5 7#5 State.reset)))
  setFeed 5#5 { opens := [.ok], reads := [], requests := 0 }
    (setFeed 2#5 { opens := [second], reads := [], requests := 0 }
      (setFeed 7#5 { opens := [.ok], reads := [], requests := 0 } s))

/-- What a field of the next state is, if there is one. -/
def ofNext {α : Type} (f : State → α) : Result → Option α
  | .next s => some (f s)
  | .fault _ => none
  | .refused _ => none

theorem ofNext_some {α : Type} {f : State → α} {r : Result} {x : α} (h : ofNext f r = some x) :
    ∃ s, r = .next s ∧ f s = x := by
  cases r with
  | next s => exact ⟨s, rfl, by simpa [ofNext] using h⟩
  | fault _ => cases h
  | refused _ => cases h

/-! ## One step at a time, against 95_test_vectors.md -/

/-- V35, from the word to the register and the response. -/
theorem test_setStructure :
    ofNext (fun t => (t.regs.structureMode, t.env.trace)) (step (configWith 0x10000002#32)) =
      some (2#2, [.cmd 0x10000002#32, .resp 0x000#11]) := by decide

/-- V37. -/
theorem test_setFraming :
    ofNext (fun t => (t.regs.framing, t.regs.crc4Req)) (step (configWith 0x20000003#32)) =
      some (.multiframe, true) := by decide

/-- V38. -/
theorem test_setSilence :
    ofNext (fun t => t.regs.silence) (step (configWith 0x3000001B#32)) = some 0x1B#8 := by decide

/-- V42. -/
theorem test_bind :
    ofNext (fun t => (readBank t.regs.bindValid 31#5, readBank t.regs.bindChan 31#5, readBank t.regs.bindValid 30#5))
      (exec (.bind 31#8 7#5) State.reset) = some (true, 7#5, false) := by decide

/-- V43 and V45: the two fatal errors of BIND, with the response words ERR_RANGE/0x00 and ERR_DUP/0x00. -/
theorem test_bind_fatal :
    ofNext (fun t => (t.regs.phase, t.regs.failCause, t.env.trace)) (exec (.bind 32#8 0#5) State.reset) =
        some (.failed, 3#3, [.resp 0x300#11]) ∧
      ofNext (fun t => (t.regs.failCause, readBank t.regs.bindChan 1#5, t.env.trace))
        (exec (.bind 1#8 4#5) (setBinding 1#5 3#5 State.reset)) = some (4#3, 3#5, [.resp 0x400#11]) := by decide

/-- V54's order, with the bindings of P6: channel 7 once, at its lowest timeslot, then 2, then 5; the modes of R245. -/
theorem test_init_opens_in_order :
    ofNext (fun t => (t.env.trace, readBank t.regs.mode 12#5, readBank t.regs.mode 0#5)) (exec .init (boundEngine .ok)) =
      some ([.chanOpen 7#5 .ok, .chanOpen 2#5 .ok, .chanOpen 5#5 .ok, .resp 0x000#11], .ext, .silence) := by decide

/-- V55: the failed open closes channel 7, asks no channel 5, and is fatal. -/
theorem test_init_failed_open :
    ofNext (fun t => (t.env.trace, t.regs.phase, t.regs.failCause, readBank t.regs.chanOpen 7#5))
        (exec .init (boundEngine .fail)) =
      some ([.chanOpen 7#5 .ok, .chanOpen 2#5 .fail, .chanClose 7#5, .resp 0x500#11], .failed, 5#3, false) := by decide

/-- V27: the cursor and the frame counter wrap together. -/
theorem test_nextByte_wraps :
    ofNext (fun t => (t.regs.cursor, t.regs.frame, t.env.trace))
      (exec .nextByte (runningAt 31#5 0xFFFFFFFF#32 0xAB#8)) = some (0#5, 0#32, [.resp 0x0AB#11]) := by decide

/-- V57: the end of a channel. -/
theorem test_nextByte_degrades :
    ofNext (fun t => (t.env.trace, readBank t.regs.mode 2#5, readBank t.regs.chanOpen 3#5))
        (exec .nextByte (externalAt2 [.ended .eof])) =
      some ([.chanRead 3#5 (.ended .eof), .chanClose 3#5, .diag 2#5 3#5 .eof, .resp 0x000#11], .silence, false) := by
  decide

/-- V61 and V31: frame 9 in multiframe mode with the default ROMs. -/
theorem test_framing_frame_nine : framing State.reset.roms 9#32 .multiframe = 0xDF#8 := by decide

/-- R142 and R15: the default FAS word spells `0 0 0 1 1 0 1 1` in G.704 bits 1 to 8. -/
theorem test_fas_word_in_g704_bits :
    ([1, 2, 3, 4, 5, 6, 7, 8].map fun k => g704Bit k (framing State.reset.roms 0#32 .doubleFrame)) =
      [false, false, false, true, true, false, true, true] := by decide

/-- V65: READ_STATUS after ERR_RANGE gives 0x98. -/
theorem test_readStatus : ofNext (fun t => t.env.trace) (exec .readStatus failedEngine) = some [.resp 0x098#11] := by
  decide

/-- READ_CURSOR at 31 (R282). -/
theorem test_readCursor :
    ofNext (fun t => t.env.trace) (exec .readCursor (runningAt 31#5 0#32 0#8)) = some [.resp 0x01F#11] := by decide

/-- V67: octets 0 and 2 of 0x00010203. -/
theorem test_readFrame :
    ofNext (fun t => t.env.trace) (exec (.readFrame 0#2) (runningAt 0#5 0x00010203#32 0#8)) = some [.resp 0x003#11] ∧
      ofNext (fun t => t.env.trace) (exec (.readFrame 2#2) (runningAt 0#5 0x00010203#32 0#8)) = some [.resp 0x001#11] := by
  decide

/-- The code of EXT (R286). -/
theorem test_readTsMode :
    ofNext (fun t => t.env.trace) (exec (.readTsMode 2#5) (externalAt2 [])) = some [.resp 0x003#11] := by decide

/-- V71: reset closes channels 1 and 3, in that order. -/
theorem test_reset_closes :
    ofNext (fun t => (t.env.trace, t.regs.phase))
        (step (queueInput .reset (setChanOpen 3#5 true (setChanOpen 1#5 true (runningAt 0#5 0#32 0#8))))) =
      some ([.chanClose 1#5, .chanClose 3#5], .config) := by decide +kernel

/-- R116: the word 0 in CONFIG. -/
theorem test_illegal_word :
    ofNext (fun t => t.env.trace) (step (configWith 0#32)) = some [.cmd 0#32, .resp 0x100#11] := by decide

/-- V34: ALIGN_ROM[3] = 0x01 is refused. -/
theorem test_align_rom_refused :
    step { State.reset with roms := { State.reset.roms with align := writeBank State.reset.roms.align 3#4 0x01#8 } } =
      .refused .alignRomParameter := by rfl

/-! ## Witnesses: each statement's hypotheses hold somewhere, at the boundary values of its clauses -/

theorem witness_EncodeThenDecodeGivesTheCommandBack :
    WellFormed (.bind 255#8 31#5) = true ∧ WellFormed (.setStructure 2#2) = true := by decide

theorem witness_DecodedWordIsItsEncoding : decode 0x40FF001F#32 = .ok (.bind 255#8 31#5) := by decide

theorem witness_ReservedOpcodesAndSelectorsAreIllegal :
    opField 0x0FFFFFFF#32 = 0#4 ∧ 8 ≤ (opField 0x80000000#32).toNat ∧
      opField 0x74000000#32 = 7#4 ∧ 4 ≤ (selField 0x74000000#32).toNat := by decide

theorem witness_NonzeroReservedFieldsAreIllegal :
    (opField 0x10000004#32 = 1#4 ∧ (0x10000004#32).extractLsb' 2 26 ≠ 0#26) ∧
      (opField 0x2FFFFFFC#32 = 2#4 ∧ (0x2FFFFFFC#32).extractLsb' 2 26 ≠ 0#26) ∧
      (opField 0x30000100#32 = 3#4 ∧ (0x30000100#32).extractLsb' 8 20 ≠ 0#20) ∧
      (opField 0x41000000#32 = 4#4 ∧ (0x41000000#32).extractLsb' 24 4 ≠ 0#4) ∧
      (opField 0x40000020#32 = 4#4 ∧ (0x40000020#32).extractLsb' 5 11 ≠ 0#11) ∧
      (opField 0x50000001#32 = 5#4 ∧ (0x50000001#32).extractLsb' 0 28 ≠ 0#28) ∧
      (opField 0x68000000#32 = 6#4 ∧ (0x68000000#32).extractLsb' 0 28 ≠ 0#28) ∧
      (opField 0x73000020#32 = 7#4 ∧ (0x73000020#32).extractLsb' 5 19 ≠ 0#19) ∧
      (opField 0x70000001#32 = 7#4 ∧ selField 0x70000001#32 = 0#4 ∧ (0x70000001#32).extractLsb' 0 5 ≠ 0#5) ∧
      (opField 0x71000010#32 = 7#4 ∧ selField 0x71000010#32 = 1#4 ∧ (0x71000010#32).extractLsb' 0 5 ≠ 0#5) ∧
      (opField 0x72000004#32 = 7#4 ∧ selField 0x72000004#32 = 2#4 ∧ (0x72000004#32).extractLsb' 2 3 ≠ 0#3) := by
  decide

theorem witness_StructThreeIsTheOnlyReservedValue :
    (opField 0x10000003#32 = 1#4 ∧ (0x10000003#32).extractLsb' 0 2 = 3#2) ∧
      (opField 0x10000002#32 = 1#4 ∧ (0x10000002#32).extractLsb' 2 26 = 0#26 ∧
        (0x10000002#32).extractLsb' 0 2 ≠ 3#2) ∧
      (opField 0x20000003#32 = 2#4 ∧ (0x20000003#32).extractLsb' 2 26 = 0#26) ∧
      (opField 0x300000FF#32 = 3#4 ∧ (0x300000FF#32).extractLsb' 8 20 = 0#20) ∧
      (opField 0x40FF001F#32 = 4#4 ∧ (0x40FF001F#32).extractLsb' 24 4 = 0#4 ∧
        (0x40FF001F#32).extractLsb' 5 11 = 0#11) ∧
      (opField 0x72000003#32 = 7#4 ∧ selField 0x72000003#32 = 2#4 ∧ (0x72000003#32).extractLsb' 2 22 = 0#22) ∧
      (opField 0x7300001F#32 = 7#4 ∧ selField 0x7300001F#32 = 3#4 ∧ (0x7300001F#32).extractLsb' 5 19 = 0#19) := by
  decide

/-- The last operand in range of each row with a number, and the first out of it. -/
theorem witness_AssembledLinesDecodeAndBadOperandsAreRefused :
    assemble ⟨"SET_STRUCTURE", [.number 2]⟩ = some 0x10000002#32 ∧ assemble ⟨"SET_STRUCTURE", [.number 3]⟩ = none ∧
      assemble ⟨"SET_SILENCE", [.number 255]⟩ = some 0x300000FF#32 ∧ assemble ⟨"SET_SILENCE", [.number 256]⟩ = none ∧
      assemble ⟨"BIND", [.number 255, .number 31]⟩ = some 0x40FF001F#32 ∧
      assemble ⟨"BIND", [.number 256, .number 0]⟩ = none ∧ assemble ⟨"BIND", [.number 0, .number 32]⟩ = none ∧
      assemble ⟨"READ_FRAME", [.number 3]⟩ = some 0x72000003#32 ∧ assemble ⟨"READ_FRAME", [.number 4]⟩ = none ∧
      assemble ⟨"READ_TSMODE", [.number 31]⟩ = some 0x7300001F#32 ∧ assemble ⟨"READ_TSMODE", [.number 32]⟩ = none := by
  decide

theorem witness_StepRunsTheDecodedCommand :
    alignRomLegal (configWith 0x10000002#32).roms.align = true ∧
      (configWith 0x10000002#32).env.inputs = [.command 0x10000002#32] ∧
      decode 0x10000002#32 = .ok (.setStructure 2#2) := by decide

theorem witness_IllegalWordOnlyResponds :
    alignRomLegal (configWith 0xFFFFFFFF#32).roms.align = true ∧
      (configWith 0xFFFFFFFF#32).env.inputs = [.command 0xFFFFFFFF#32] ∧
      decode 0xFFFFFFFF#32 = .error .reservedOpcode := by decide

theorem witness_IdleEngineKeepsItsState :
    alignRomLegal State.reset.roms.align = true ∧ State.reset.env.inputs = [] := by decide

theorem witness_IllegalAlignRomIsRefused :
    readBank (writeBank defaultAlignRom 15#4 0x01#8) 15#4 &&& 0x7F#8 ≠ 0#8 := by decide

theorem witness_ResetInputRestoresTheResetState :
    alignRomLegal (queueInput .reset failedEngine).roms.align = true ∧
      (queueInput .reset failedEngine).env.inputs = [.reset] := by decide

theorem witness_EveryCommandGivesOneResponse :
    ∃ t, executeWord 0x60000000#32 (externalAt2 [.ended .error]) = .next t := ⟨_, rfl⟩

theorem witness_NonFatalErrorsChangeNothing :
    (∃ t, executeWord 0#32 State.reset = .next t ∧ t.env.trace.getLast? = some (.resp (respWord .errIllegal 0#8))) ∧
      (∃ t, executeWord 0x60000000#32 State.reset = .next t ∧
        t.env.trace.getLast? = some (.resp (respWord .errPhase 0#8))) ∧
      ∃ t, executeWord 0x60000000#32 failedEngine = .next t ∧
        t.env.trace.getLast? = some (.resp (respWord .errFailed 0#8)) :=
  ⟨⟨_, rfl, rfl⟩, ⟨_, rfl, rfl⟩, ⟨_, rfl, rfl⟩⟩

/-- The three phases, for the statements with one clause a phase: SetFramingWritesFramingAndCrcRequest,
SetSilenceWritesSilence, the refusals of BindBindsAnUnboundTimeslot, CommandsOutOfPhaseAreRefused and
NextByteIsRefusedOutsideRunning. -/
theorem witness_phases :
    State.reset.regs.phase = .config ∧ (runningAt 0#5 0#32 0#8).regs.phase = .running ∧
      failedEngine.regs.phase = .failed := by decide

theorem witness_SetStructureWritesStructure :
    WellFormed (.setStructure 0#2) = true ∧ WellFormed (.setStructure 2#2) = true ∧
      State.reset.regs.phase = .config ∧ (runningAt 0#5 0#32 0#8).regs.phase = .running ∧
      failedEngine.regs.phase = .failed := by decide

theorem witness_BindBindsAnUnboundTimeslot :
    State.reset.regs.phase = .config ∧ (31#8).toNat < 32 ∧
      readBank State.reset.regs.bindValid ((31#8).setWidth 5) = false := by decide

theorem witness_BindOutOfRangeIsFatal : State.reset.regs.phase = .config ∧ 32 ≤ (32#8).toNat := by decide

theorem witness_BindOfABoundTimeslotIsFatal :
    (setBinding 31#5 3#5 State.reset).regs.phase = .config ∧ (31#8).toNat < 32 ∧
      readBank (setBinding 31#5 3#5 State.reset).regs.bindValid ((31#8).setWidth 5) = true := by decide

theorem witness_FailedEngineRefusesEverythingButReads :
    (∀ k ts5, Instr.nextByte ≠ .readStatus ∧ Instr.nextByte ≠ .readCursor ∧ Instr.nextByte ≠ .readFrame k ∧
      Instr.nextByte ≠ .readTsMode ts5) ∧ failedEngine.regs.phase = .failed := by
  refine ⟨fun k ts5 => ⟨?_, ?_, ?_, ?_⟩, rfl⟩ <;> intro h <;> cases h

/-- Of InitAssignsModesAndRuns and of InitOpensEachBoundChannelOnceInTimeslotOrder. -/
theorem witness_InitOpens :
    (boundEngine .ok).regs.phase = .config ∧
      (∀ t, readBank (boundEngine .ok).regs.bindValid t = true →
        openAnswer (readBank (boundEngine .ok).regs.bindChan t) (boundEngine .ok) = .ok) ∧
      readBank (boundEngine .ok).regs.bindValid 20#5 = true := by
  refine ⟨rfl, ?_, by decide⟩
  intro t ht
  have : t = 3#5 ∨ t = 9#5 ∨ t = 12#5 ∨ t = 20#5 := by revert t; decide
  obtain rfl | rfl | rfl | rfl := this <;> rfl

theorem witness_InitLeavesExactlyTheBoundChannelsOpen :
    (boundEngine .ok).regs.phase = .config ∧ (∀ c, readBank (boundEngine .ok).regs.chanOpen c = false) ∧
      ∃ u, exec .init (boundEngine .ok) = .next u ∧ u.regs.phase = .running :=
  ⟨rfl, by decide, ofNext_some (f := fun u => u.regs.phase) (by decide)⟩

theorem witness_InitStopsAtTheFirstFailedOpen :
    (boundEngine .fail).regs.phase = .config ∧ (∀ d, readBank (boundEngine .fail).regs.chanOpen d = false) ∧
      boundChannels (boundEngine .fail).regs = [7#5] ++ 2#5 :: [5#5] ∧
      (∀ d ∈ [7#5], openAnswer d (boundEngine .fail) = .ok) ∧ openAnswer 2#5 (boundEngine .fail) = .fail := by
  refine ⟨rfl, by decide, by decide, ?_, rfl⟩
  intro d hd
  rw [List.mem_singleton] at hd
  subst hd
  rfl

theorem witness_InitWithoutBindingsCannotFail :
    State.reset.regs.phase = .config ∧ ∀ t, readBank State.reset.regs.bindValid t = false := by decide

theorem witness_NextByteOfASilenceTimeslot :
    (runningAt 31#5 0#32 0xFF#8).regs.phase = .running ∧
      readBank (runningAt 31#5 0#32 0xFF#8).regs.mode (runningAt 31#5 0#32 0xFF#8).regs.cursor = .silence := by decide

theorem witness_NextByteOfASyncTimeslot :
    (setMode 0#5 .sync (runningAt 0#5 9#32 0#8)).regs.phase = .running ∧
      readBank (setMode 0#5 .sync (runningAt 0#5 9#32 0#8)).regs.mode 0#5 = .sync := by decide

theorem witness_NextByteOfAnExternalTimeslot :
    (externalAt2 [.data 0xA1#8]).regs.phase = .running ∧
      readBank (externalAt2 [.data 0xA1#8]).regs.mode (externalAt2 [.data 0xA1#8]).regs.cursor = .ext ∧
      readBank (externalAt2 [.data 0xA1#8]).regs.bindChan (externalAt2 [.data 0xA1#8]).regs.cursor = 3#5 ∧
      readBank (externalAt2 [.data 0xA1#8]).regs.chanOpen 3#5 = true ∧
      readAnswer 3#5 (externalAt2 [.data 0xA1#8]) = .data 0xA1#8 := ⟨rfl, by decide, by decide, by decide, rfl⟩

theorem witness_NextByteDegradesAtTheChannelsEnd :
    (externalAt2 [.ended .error]).regs.phase = .running ∧
      readBank (externalAt2 [.ended .error]).regs.mode (externalAt2 [.ended .error]).regs.cursor = .ext ∧
      readBank (externalAt2 [.ended .error]).regs.bindChan (externalAt2 [.ended .error]).regs.cursor = 3#5 ∧
      readBank (externalAt2 [.ended .error]).regs.chanOpen 3#5 = true ∧
      readAnswer 3#5 (externalAt2 [.ended .error]) = .ended .error := ⟨rfl, by decide, by decide, by decide, rfl⟩

theorem witness_NextByteOfAClosedChannelDegradesWithoutARead :
    closedAt2.regs.phase = .running ∧ readBank closedAt2.regs.mode closedAt2.regs.cursor = .ext ∧
      readBank closedAt2.regs.bindChan closedAt2.regs.cursor = 3#5 ∧
      readBank closedAt2.regs.chanOpen 3#5 = false := by decide

theorem witness_NextByteFaultsExactlyAtAnUnboundTimeslot :
    (setMode 5#5 .unbound (runningAt 5#5 0#32 0#8)).regs.phase = .running ∧
      exec .nextByte (setMode 5#5 .unbound (runningAt 5#5 0#32 0#8)) = .fault .unboundTimeslot := ⟨rfl, rfl⟩

/-- A running engine with one external timeslot meets the invariant: of NextByteNeverFailsInRunning, of
EveryCommandGivesOneResponse's second clause and of InvariantStatesNeverStop. -/
theorem witness_invariant : Inv (externalAt2 [.ended .eof]) where
  configClean := by decide
  runningAssigned := by decide
  syncOnlyFirst := by decide
  extBound := by decide
  openServes := by decide
  failedClean := by decide
  causeOnlyFailed := by decide
  structureLegal := by decide
  failedCounters := by decide
  alignLegal := by decide

/-- A FAILED engine meets the invariant: of the clauses of ReadStatusGivesPhaseAndCause, ReadCursorGivesTheCursor and
ReadTsModeGivesTheMode about it. -/
theorem witness_invariant_failed : Inv failedEngine ∧ failedEngine.regs.phase ≠ .running :=
  ⟨{ configClean := by decide
     runningAssigned := by decide
     syncOnlyFirst := by decide
     extBound := by decide
     openServes := by decide
     failedClean := by decide
     causeOnlyFailed := by decide
     structureLegal := by decide
     failedCounters := by decide
     alignLegal := by decide }, by decide⟩

/-- Of NextByteNeverFailsInRunning, ThirtyTwoNextBytesAdvanceOneFrame and, with the cursor and the frame at 0,
OctetStreamScansTheTimeslotsInOrder. -/
theorem witness_assigned_running :
    (externalAt2 [.data 0xA1#8]).regs.phase = .running ∧
      (∀ t, readBank (externalAt2 [.data 0xA1#8]).regs.mode t ≠ .unbound) ∧
      (runningAt 0#5 0#32 0#8).regs.phase = .running ∧
      (∀ t, readBank (runningAt 0#5 0#32 0#8).regs.mode t ≠ .unbound) ∧
      (runningAt 0#5 0#32 0#8).regs.cursor = 0#5 ∧ (runningAt 0#5 0#32 0#8).regs.frame = 0#32 := by decide

theorem witness_NextByteTouchesOnlyTheCursorsTimeslot :
    ∃ t, exec .nextByte (externalAt2 [.ended .eof]) = .next t := ⟨_, rfl⟩

theorem witness_SharersReconstructTheirChannel :
    (externalAt2 [.data 0xA1#8, .ended .eof]).regs.phase = .running ∧ 1 ≤ [0xA1#8].length ∧
      readBank (externalAt2 [.data 0xA1#8, .ended .eof]).regs.chanOpen 3#5 = true ∧
      (feed 3#5 (externalAt2 [.data 0xA1#8, .ended .eof])).reads = [0xA1#8].map .data ++ [.ended .eof] ∧
      servedBy (externalAt2 [.data 0xA1#8, .ended .eof]).regs 3#5 2#5 = true ∧
      (∀ t, readBank (externalAt2 [.data 0xA1#8, .ended .eof]).regs.mode t ≠ .unbound) := by decide

theorem witness_AtMostOneDiagnosticBetweenResets :
    HostInput.reset ∉ (queueInput (.command 0x60000000#32) (externalAt2 [.ended .eof])).env.inputs ∧
      ∃ t, Sys2Proof.core.run 1 (queueInput (.command 0x60000000#32) (externalAt2 [.ended .eof])) = .next t :=
  ⟨by decide, _, rfl⟩

theorem witness_SyncWordBitSevenMasksTheAlignmentBit :
    alignRomLegal defaultAlignRom = true ∧
      (framing { sync := #v[0x9B#8, 0xDF#8], align := defaultAlignRom } 5#32 .doubleFrame).getLsbD 7 = true := by decide

/-- Of the statements about a step that answers a next state: one in RUNNING with a command, in a state of the
invariant with a bound timeslot (StepKeepsTheInvariant, ConfigurationIsFrozenInRunning,
TimeslotModeTransitionsAreTheSpecs, PhaseTransitionsAreTheSpecs, RomsNeverChange, BindingsStayUntilReset). -/
theorem witness_step_in_running :
    Inv (queueInput (.command 0x60000000#32) (externalAt2 [.ended .eof])) ∧
      (queueInput (.command 0x60000000#32) (externalAt2 [.ended .eof])).regs.phase = .running ∧
      readBank (queueInput (.command 0x60000000#32) (externalAt2 [.ended .eof])).regs.bindValid 2#5 = true ∧
      ¬ resets (queueInput (.command 0x60000000#32) (externalAt2 [.ended .eof])) ∧
      issues (queueInput (.command 0x60000000#32) (externalAt2 [.ended .eof])) .nextByte ∧
      ∃ t, step (queueInput (.command 0x60000000#32) (externalAt2 [.ended .eof])) = .next t ∧
        readBank t.regs.mode 2#5 = .silence :=
  ⟨{ witness_invariant with }, rfl, rfl, nofun, ⟨_, _, rfl, rfl⟩, _, rfl, rfl⟩

end Sys2Proof.Tests
end

