-- ==== Sys2Proof/Proofs/TimeslotModes.lean ====
section
/-! The timeslot modes under every command: INIT's success and NEXT_BYTE's degrade are the only commands that write
`R.MODE` (R48). -/

namespace Sys2Proof.Machine

variable {s t : State}

/-- Opening channels writes `R.CHAN_OPEN` only, whatever they answer. -/
@[simp] theorem openAll_regs (cs : List ChannelId) (s : State) :
    (openAll cs s).regs = { s.regs with chanOpen := cs.foldl (fun v c => writeBank v c true) s.regs.chanOpen } := by
  induction cs generalizing s with
  | nil => rfl
  | cons c cs ih => exact ih (setChanOpen c true (requestOpen c s))

theorem fatal_keeps_mode {code : Status} (h : fatal code s = .next t) : t.regs.mode = s.regs.mode := by
  rw [fatal_eq] at h
  cases h
  rfl

/-- A refusal by phase changes no register, so a command keeps the modes if its own work does. -/
theorem inPhase_keeps_mode {p : Phase} {body : State → Result}
    (hbody : s.regs.phase = p → body s = .next t → t.regs.mode = s.regs.mode) (h : inPhase p body s = .next t) :
    t.regs.mode = s.regs.mode := by
  obtain ⟨-, rfl⟩ | ⟨-, -, rfl⟩ | ⟨hp, -, hwork⟩ := inPhase_eq_next h
  · rfl
  · rfl
  · exact hbody hp hwork

/-- A command whose only work is a write outside the modes keeps them, admitted or refused. -/
theorem inPhase_write_keeps_mode {p : Phase} {status : Status} {data : Byte} {write : State → State}
    (h : inPhase p (fun s => respond status data (write s)) s = .next t)
    (hwrite : (write s).regs.mode = s.regs.mode) : t.regs.mode = s.regs.mode := by
  refine inPhase_keeps_mode (fun _ hwork => ?_) h
  rw [← respond_eq_next.1 hwork]
  exact hwrite

/-- BIND writes the binding, or fails fatally (R215, R217, R218). -/
theorem execBind_keeps_mode {ts : BitVec 8} {chan : ChannelId} (h : execBind ts chan s = .next t) :
    t.regs.mode = s.regs.mode := by
  refine inPhase_keeps_mode (fun _ hwork => ?_) h
  split at hwork
  · split at hwork
    · exact fatal_keeps_mode hwork
    · rw [← respond_eq_next.1 hwork]
      rfl
  · exact fatal_keeps_mode hwork

/-- INIT writes the modes only when it takes CONFIG to RUNNING; a failed open leaves them as they were (R244). -/
theorem execInit_mode_cases (h : exec .init s = .next t) :
    t.regs.mode = s.regs.mode ∨ s.regs.phase = .config ∧ t.regs.phase = .running := by
  by_cases hp : s.regs.phase = .config
  · obtain ⟨-, he⟩ | ⟨before, c, after, -, -, -, he⟩ := initWork_cases s hp
    · cases he.symm.trans h
      exact .inr ⟨hp, rfl⟩
    · left
      rw [fatal_keeps_mode (he.symm.trans h), closeAll_eq]
      simp
  · change execInit s = .next t at h
    exact .inl (inPhase_keeps_mode (fun hconfig _ => absurd hconfig hp) h)

/-- NEXT_BYTE keeps the modes, or degrades the cursor's own timeslot from EXT to SILENCE (R178). -/
theorem execNextByte_mode_cases (h : exec .nextByte s = .next t) :
    t.regs.mode = s.regs.mode ∨
      readBank s.regs.mode s.regs.cursor = .ext ∧
        t.regs.mode = writeBank s.regs.mode s.regs.cursor .silence := by
  obtain ⟨-, rfl⟩ | ⟨-, rfl⟩ | ⟨-, b, u, hpr, rfl⟩ := execNextByte_cases h
  · exact .inl rfl
  · exact .inl rfl
  · obtain ⟨-, -, hu | ⟨hext, -, hu⟩⟩ := produce_regs _ _ _ hpr
    · exact .inl (by simp [hu])
    · exact .inr ⟨hext, by simp [hu]⟩

/-- What one command can do to the modes: nothing, INIT's assignment, or NEXT_BYTE's degrade. -/
theorem exec_mode_cases {i : Instr} (h : exec i s = .next t) :
    t.regs.mode = s.regs.mode ∨
      (i = .init ∧ s.regs.phase = .config ∧ t.regs.phase = .running) ∨
        (i = .nextByte ∧ readBank s.regs.mode s.regs.cursor = .ext ∧
          t.regs.mode = writeBank s.regs.mode s.regs.cursor .silence) := by
  cases i with
  | setStructure struct =>
    change execSetStructure struct s = .next t at h
    exact .inl (inPhase_write_keeps_mode h rfl)
  | setFraming frm crc4 =>
    change execSetFraming frm crc4 s = .next t at h
    exact .inl (inPhase_write_keeps_mode h rfl)
  | setSilence sil =>
    change execSetSilence sil s = .next t at h
    exact .inl (inPhase_write_keeps_mode h rfl)
  | bind => exact .inl (execBind_keeps_mode h)
  | init => exact (execInit_mode_cases h).imp_right fun hrun => .inl ⟨rfl, hrun⟩
  | nextByte => exact (execNextByte_mode_cases h).imp_right fun hdeg => .inr ⟨rfl, hdeg⟩
  | readStatus | readCursor | readFrame | readTsMode =>
    rw [← respond_eq_next.1 h]
    exact .inl rfl

/-- A command word runs the command it decodes to, or is ILLEGAL and changes no register (R111, R116). -/
theorem executeWord_cases {w : CommandWord} (h : executeWord w s = .next t) :
    (∃ i, decode w = .ok i ∧ exec i s = .next t) ∨ t = emit (.resp (respWord .errIllegal 0#8)) s := by
  unfold executeWord at h
  split at h
  · next i hi => exact .inl ⟨i, hi, h⟩
  · exact .inr (respond_eq_next.1 h).symm

/-- Settles O56, by the cases of a step and, for a command, of what it can do to the modes. The invariant is used
once: before INIT, in CONFIG, every timeslot is UNBOUND (R46 (a)). -/
theorem timeslotModeTransitionsAreTheSpecs : Obligations.TimeslotModeTransitionsAreTheSpecs := by
  intro s t u hinv hstep
  obtain ⟨-, rfl⟩ | ⟨rest, hin, rfl⟩ | ⟨w, rest, hin, hword⟩ := step_cases hstep
  · exact .inl rfl
  · have hreset : resets s := by simp [resets, hin]
    exact .inr (.inr (.inr ⟨by simp [Regs.reset], hreset⟩))
  · obtain ⟨i, hdec, hexec⟩ | rfl := executeWord_cases hword
    · have hissues : issues s i := ⟨w, rest, hin, hdec⟩
      obtain hsame | ⟨rfl, hconfig, hrunning⟩ | ⟨rfl, hext, hmode⟩ := exec_mode_cases hexec
      · exact .inl (by rw [hsame]; rfl)
      · have hunbound := (hinv.configClean hconfig).1 u
        exact .inr (.inl ⟨hunbound, hissues, hconfig, hrunning⟩)
      · by_cases hu : s.regs.cursor = u
        · subst hu
          exact .inr (.inr (.inl ⟨hext, by rw [hmode]; exact readBank_writeBank_self .., hissues, rfl⟩))
        · exact .inl (by rw [hmode]; exact readBank_writeBank_ne _ _ hu)
    · exact .inl rfl

end Sys2Proof.Machine
end


section
/-! The decoder by its fields: the opcode selects the format's decoder, which refuses a reserved field that is not
zero and otherwise reads the operands as they stand (R101 to R115). -/

namespace Sys2Proof

variable {w : CommandWord}

/-- A field inside a zero field is zero. -/
theorem extractLsb'_eq_zero_of_within {n start len start' len' : ℕ} {x : BitVec n}
    (hzero : x.extractLsb' start len = 0#len) (hstart : start ≤ start') (hend : start' + len' ≤ start + len) :
    x.extractLsb' start' len' = 0#len' := by
  ext i hi
  have hbit := congrArg (fun y => y.getLsbD (start' - start + i)) hzero
  have hin : start' - start + i < len := by omega
  have hpos : start + (start' - start + i) = start' + i := by omega
  simpa [hin, hpos] using hbit

/-! ### The opcode selects a format (R101) -/

theorem decode_eq_decodeSetStructure (hop : opField w = 1#4) : decode w = decodeSetStructure w := by
  simp [decode, hop]

theorem decode_eq_decodeSetFraming (hop : opField w = 2#4) : decode w = decodeSetFraming w := by
  simp [decode, hop]

theorem decode_eq_decodeSetSilence (hop : opField w = 3#4) : decode w = decodeSetSilence w := by
  simp [decode, hop]

theorem decode_eq_decodeBind (hop : opField w = 4#4) : decode w = decodeBind w := by
  simp [decode, hop]

theorem decode_eq_decodeNoOperand_init (hop : opField w = 5#4) : decode w = decodeNoOperand .init w := by
  simp [decode, hop]

theorem decode_eq_decodeNoOperand_nextByte (hop : opField w = 6#4) : decode w = decodeNoOperand .nextByte w := by
  simp [decode, hop]

theorem decode_eq_decodeRead (hop : opField w = 7#4) : decode w = decodeRead w := by
  simp [decode, hop]

theorem decode_reservedOpcode (hop : opField w = 0#4 ∨ 8 ≤ (opField w).toNat) :
    decode w = .error .reservedOpcode := by
  have hne : (opField w).toNat = 0 ∨ 8 ≤ (opField w).toNat := hop.imp_left fun h => by rw [h]; rfl
  unfold decode
  split
  case h_8 => rfl
  all_goals omega

/-! ### Formats S, F, B, T and N (R102 to R105, R108) -/

theorem decodeSetStructure_reservedField (h : w.extractLsb' 2 26 ≠ 0#26) :
    decodeSetStructure w = .error .reservedField := if_pos h

theorem decodeSetStructure_structThree (hstruct : w.extractLsb' 0 2 = 3#2) :
    ∃ r, decodeSetStructure w = .error r := by
  by_cases h : w.extractLsb' 2 26 = 0#26
  · exact ⟨.reservedValue, by simp [decodeSetStructure, h, hstruct]⟩
  · exact ⟨_, decodeSetStructure_reservedField h⟩

theorem decodeSetStructure_ok (h : w.extractLsb' 2 26 = 0#26) (hstruct : w.extractLsb' 0 2 ≠ 3#2) :
    decodeSetStructure w = .ok (.setStructure (w.extractLsb' 0 2)) := by
  simp [decodeSetStructure, h, hstruct]

theorem decodeSetFraming_reservedField (h : w.extractLsb' 2 26 ≠ 0#26) :
    decodeSetFraming w = .error .reservedField := if_pos h

theorem decodeSetFraming_ok (h : w.extractLsb' 2 26 = 0#26) :
    decodeSetFraming w = .ok (.setFraming (framingOfBit (w.getLsbD 0)) (w.getLsbD 1)) := if_neg (not_not_intro h)

theorem decodeSetSilence_reservedField (h : w.extractLsb' 8 20 ≠ 0#20) :
    decodeSetSilence w = .error .reservedField := if_pos h

theorem decodeSetSilence_ok (h : w.extractLsb' 8 20 = 0#20) :
    decodeSetSilence w = .ok (.setSilence (w.extractLsb' 0 8)) := if_neg (not_not_intro h)

theorem decodeBind_reservedField (h : w.extractLsb' 24 4 ≠ 0#4 ∨ w.extractLsb' 5 11 ≠ 0#11) :
    decodeBind w = .error .reservedField := if_pos h

theorem decodeBind_ok (hhigh : w.extractLsb' 24 4 = 0#4) (hmid : w.extractLsb' 5 11 = 0#11) :
    decodeBind w = .ok (.bind (w.extractLsb' 16 8) (w.extractLsb' 0 5)) :=
  if_neg (not_or.2 ⟨not_not_intro hhigh, not_not_intro hmid⟩)

theorem decodeNoOperand_reservedField {i : Instr} (h : w.extractLsb' 0 28 ≠ 0#28) :
    decodeNoOperand i w = .error .reservedField := if_pos h

/-! ### Format R, selector by selector (R109, R113) -/

theorem decodeRead_reservedField (h : w.extractLsb' 5 19 ≠ 0#19) : decodeRead w = .error .reservedField := if_pos h

/-- A read word is illegal as soon as it is with `w[23:5] = 0`: the other words have a reserved field. -/
theorem decodeRead_error_of {r : IllegalReason} (h : w.extractLsb' 5 19 = 0#19 → decodeRead w = .error r) :
    ∃ r, decodeRead w = .error r := by
  by_cases hres : w.extractLsb' 5 19 = 0#19
  · exact ⟨r, h hres⟩
  · exact ⟨_, decodeRead_reservedField hres⟩

theorem decodeRead_reservedSelector (hsel : 4 ≤ (selField w).toNat) : ∃ r, decodeRead w = .error r := by
  refine decodeRead_error_of (r := .reservedSelector) fun hres => ?_
  refine (if_neg (not_not_intro hres)).trans ?_
  split
  case h_5 => rfl
  all_goals omega

theorem decodeRead_argNonzero (hsel : selField w = 0#4 ∨ selField w = 1#4) (harg : w.extractLsb' 0 5 ≠ 0#5) :
    ∃ r, decodeRead w = .error r := by
  refine decodeRead_error_of (r := .reservedField) fun hres => ?_
  obtain hsel | hsel := hsel <;> simp [decodeRead, hres, hsel, harg]

theorem decodeRead_frameArgNonzero (hsel : selField w = 2#4) (harg : w.extractLsb' 2 3 ≠ 0#3) :
    ∃ r, decodeRead w = .error r :=
  decodeRead_error_of (r := .reservedField) fun hres => by simp [decodeRead, hres, hsel, harg]

theorem decodeRead_readFrame (hsel : selField w = 2#4) (hres : w.extractLsb' 5 19 = 0#19)
    (harg : w.extractLsb' 2 3 = 0#3) : decodeRead w = .ok (.readFrame (w.extractLsb' 0 2)) := by
  simp [decodeRead, hres, hsel, harg]

theorem decodeRead_readTsMode (hsel : selField w = 3#4) (hres : w.extractLsb' 5 19 = 0#19) :
    decodeRead w = .ok (.readTsMode (w.extractLsb' 0 5)) := by
  simp [decodeRead, hres, hsel]

/-! ### The statements -/

/-- Settles O3: no arm of the decoder takes a reserved opcode, and none of format R a reserved selector. -/
theorem reservedOpcodesAndSelectorsAreIllegal : Obligations.ReservedOpcodesAndSelectorsAreIllegal := by
  intro w
  refine ⟨fun hop => ⟨_, decode_reservedOpcode hop⟩, fun hop hsel => ?_⟩
  rw [decode_eq_decodeRead hop]
  exact decodeRead_reservedSelector hsel

/-- Settles O4, format by format. -/
theorem nonzeroReservedFieldsAreIllegal : Obligations.NonzeroReservedFieldsAreIllegal := by
  intro w
  refine ⟨?formatSF, ?formatB, ?formatT, ?formatN, ?formatR, ?argStatusCursor, ?argFrame⟩
  case formatSF =>
    rintro (hop | hop) h
    · exact ⟨_, (decode_eq_decodeSetStructure hop).trans (decodeSetStructure_reservedField h)⟩
    · exact ⟨_, (decode_eq_decodeSetFraming hop).trans (decodeSetFraming_reservedField h)⟩
  case formatB => exact fun hop h => ⟨_, (decode_eq_decodeSetSilence hop).trans (decodeSetSilence_reservedField h)⟩
  case formatT => exact fun hop h => ⟨_, (decode_eq_decodeBind hop).trans (decodeBind_reservedField h)⟩
  case formatN =>
    rintro (hop | hop) h
    · exact ⟨_, (decode_eq_decodeNoOperand_init hop).trans (decodeNoOperand_reservedField h)⟩
    · exact ⟨_, (decode_eq_decodeNoOperand_nextByte hop).trans (decodeNoOperand_reservedField h)⟩
  case formatR => exact fun hop h => ⟨_, (decode_eq_decodeRead hop).trans (decodeRead_reservedField h)⟩
  case argStatusCursor =>
    intro hop hsel harg
    rw [decode_eq_decodeRead hop]
    exact decodeRead_argNonzero hsel harg
  case argFrame =>
    intro hop hsel harg
    rw [decode_eq_decodeRead hop]
    exact decodeRead_frameArgNonzero hsel harg

/-- Settles O5, command by command. READ_FRAME's zero bits `w[23:2]` hold both reserved fields of its format. -/
theorem structThreeIsTheOnlyReservedValue : Obligations.StructThreeIsTheOnlyReservedValue := by
  intro w
  refine ⟨?structThree, ?setStructure, ?setFraming, ?setSilence, ?bind, ?readFrame, ?readTsMode⟩
  case structThree =>
    intro hop hstruct
    rw [decode_eq_decodeSetStructure hop]
    exact decodeSetStructure_structThree hstruct
  case setStructure =>
    exact fun hop h hstruct => (decode_eq_decodeSetStructure hop).trans (decodeSetStructure_ok h hstruct)
  case setFraming => exact fun hop h => (decode_eq_decodeSetFraming hop).trans (decodeSetFraming_ok h)
  case setSilence => exact fun hop h => (decode_eq_decodeSetSilence hop).trans (decodeSetSilence_ok h)
  case bind => exact fun hop hhigh hmid => (decode_eq_decodeBind hop).trans (decodeBind_ok hhigh hmid)
  case readFrame =>
    intro hop hsel h
    rw [decode_eq_decodeRead hop]
    exact decodeRead_readFrame hsel (extractLsb'_eq_zero_of_within h (by decide) (by decide))
      (extractLsb'_eq_zero_of_within h (by decide) (by decide))
  case readTsMode => exact fun hop hsel hres => (decode_eq_decodeRead hop).trans (decodeRead_readTsMode hsel hres)

end Sys2Proof
end

section
/-! The response of every command word: the events before it are channel requests, closes and diagnostics, and the
response is the last (R120). ILLEGAL words do nothing else (R116). -/

namespace Sys2Proof.Machine

variable {s t u : State}

/-! ### What a word does at the step -/

theorem executeWord_of_decode_ok {w : CommandWord} {i : Instr} (h : decode w = .ok i) :
    executeWord w s = exec i s := by simp [executeWord, h]

theorem executeWord_of_decode_error {w : CommandWord} {r : IllegalReason} (h : decode w = .error r) :
    executeWord w s = respond .errIllegal 0#8 s := by simp [executeWord, h, executeIllegal]

/-- With a legal ALIGN_ROM, a step takes the command word from the inputs, records it and executes it (R17, R18). -/
theorem step_command {w : CommandWord} {rest : List HostInput} (hrom : alignRomLegal s.roms.align = true)
    (hin : s.env.inputs = .command w :: rest) : step s = executeWord w (acceptCommand w (dropInput s)) := by
  simp [step, hrom, hin, runInput]

/-- Settles O9: the step is the word's own execution, and that of a word that decodes to no command is ERR_ILLEGAL
alone, in whatever phase. -/
theorem illegalWordOnlyResponds : Obligations.IllegalWordOnlyResponds := by
  intro s w rest r hrom hin hdec
  rw [step_command hrom hin, executeWord_of_decode_error hdec]
  simp [respond, emit, acceptCommand, dropInput, hin]

/-! ### Changes of state without a response -/

/-- From `s` to `t` the trace grew by events none of which is a response. -/
def Silent (s t : State) : Prop := ∃ es, t.env.trace = s.env.trace ++ es ∧ responses es = []

theorem responses_append (es fs : List Event) : responses (es ++ fs) = responses es ++ responses fs :=
  List.filter_append ..

theorem Silent.of_trace_eq (h : t.env.trace = s.env.trace) : Silent s t := ⟨[], by simp [h], rfl⟩

theorem Silent.trans (hst : Silent s t) (htu : Silent t u) : Silent s u := by
  obtain ⟨es, ht, hes⟩ := hst
  obtain ⟨fs, hu, hfs⟩ := htu
  exact ⟨es ++ fs, by rw [hu, ht, List.append_assoc], by rw [responses_append, hes, hfs]; rfl⟩

theorem silent_requestOpen (c : ChannelId) (s : State) : Silent s (requestOpen c s) := ⟨_, rfl, rfl⟩

theorem silent_requestRead (c : ChannelId) (s : State) : Silent s (requestRead c s) := ⟨_, rfl, rfl⟩

theorem silent_openAll (cs : List ChannelId) (s : State) : Silent s (openAll cs s) := by
  induction cs generalizing s with
  | nil => exact .of_trace_eq rfl
  | cons c cs ih =>
    have hopen : Silent s (setChanOpen c true (requestOpen c s)) := silent_requestOpen c s
    exact hopen.trans (ih _)

theorem silent_closeAll (cs : List ChannelId) (s : State) : Silent s (closeAll cs s) :=
  ⟨cs.map .chanClose, by rw [closeAll_eq], by simp [responses]⟩

theorem silent_assignModes (s : State) : Silent s (assignModes s) := .of_trace_eq (by rw [assignModes_eq])

theorem silent_degrade (ts : Timeslot) (c : ChannelId) (reason : DiagReason) (s : State) :
    Silent s (degrade ts c reason s).2 := by
  rw [degrade_eq]
  refine ⟨_, List.append_assoc .., ?_⟩
  split <;> rfl

/-- The external source makes a request or none, and may degrade its timeslot (R176, R177). -/
theorem silent_extOctet (ts : Timeslot) (s : State) : Silent s (extOctet ts s).2 := by
  obtain ⟨b, he, -, -⟩ | ⟨reason, s₁, he, hs₁⟩ := extOctet_cases ts s
  · rw [he]
    exact silent_requestRead _ s
  · rw [he]
    obtain ⟨rfl, -⟩ | ⟨rfl, -⟩ := hs₁
    · exact silent_degrade ..
    · exact (silent_requestRead _ s).trans (silent_degrade ..)

theorem silent_produce {ts : Timeslot} {f : FrameCount} {b : Byte} (h : produce ts f s = .ok (b, u)) :
    Silent s u := by
  unfold produce at h
  split at h
  · cases h; exact .of_trace_eq rfl
  · cases h; exact .of_trace_eq rfl
  · have hext : extOctet ts s = (b, u) := by injection h
    simpa [hext] using silent_extOctet ts s
  · cases h

/-! ### One response, last -/

/-- From `s` to `t` the trace grew by events that are no response, and then one response word. -/
def RespondsOnce (s t : State) : Prop :=
  ∃ es status data, t.env.trace = s.env.trace ++ es ++ [.resp (respWord status data)] ∧ responses es = []

/-- A response after a silent change is the only one. -/
theorem Silent.respondsOnce (h : Silent s u) (status : Status) (data : Byte) :
    RespondsOnce s (emit (.resp (respWord status data)) u) := by
  obtain ⟨es, hu, hes⟩ := h
  exact ⟨es, status, data, by simp [hu], hes⟩

theorem respond_respondsOnce {status : Status} {data : Byte} (hsilent : Silent s u)
    (h : respond status data u = .next t) : RespondsOnce s t := by
  rw [← respond_eq_next.1 h]
  exact hsilent.respondsOnce status data

theorem fatal_respondsOnce {code : Status} (hsilent : Silent s u) (h : fatal code u = .next t) :
    RespondsOnce s t := by
  rw [fatal_eq] at h
  cases h
  exact hsilent.respondsOnce code 0#8

/-- A refusal by phase is one response, so a command answers once if its own work does. -/
theorem inPhase_respondsOnce {p : Phase} {body : State → Result}
    (hbody : s.regs.phase = p → body s = .next t → RespondsOnce s t) (h : inPhase p body s = .next t) :
    RespondsOnce s t := by
  have hself : Silent s s := .of_trace_eq rfl
  obtain ⟨-, rfl⟩ | ⟨-, -, rfl⟩ | ⟨hp, -, hwork⟩ := inPhase_eq_next h
  · exact hself.respondsOnce ..
  · exact hself.respondsOnce ..
  · exact hbody hp hwork

/-- A configuration command that writes registers and answers OK, admitted or refused. -/
theorem inPhase_write_respondsOnce {p : Phase} {status : Status} {data : Byte} {write : State → State}
    (hwrite : (write s).env.trace = s.env.trace)
    (h : inPhase p (fun s => respond status data (write s)) s = .next t) : RespondsOnce s t :=
  inPhase_respondsOnce (fun _ hwork => respond_respondsOnce (.of_trace_eq hwrite) hwork) h

theorem execBind_respondsOnce {ts : BitVec 8} {chan : ChannelId} (h : execBind ts chan s = .next t) :
    RespondsOnce s t := by
  refine inPhase_respondsOnce (fun _ hwork => ?_) h
  split at hwork
  · split at hwork
    · exact fatal_respondsOnce (.of_trace_eq rfl) hwork
    · exact respond_respondsOnce (u := setBinding (tsIndex ts) chan s) (.of_trace_eq rfl) hwork
  · exact fatal_respondsOnce (.of_trace_eq rfl) hwork

/-- INIT's opens, and the closes of a failed INIT, come before its response (R240, R244). -/
theorem execInit_respondsOnce (h : exec .init s = .next t) : RespondsOnce s t := by
  by_cases hp : s.regs.phase = .config
  · obtain ⟨-, he⟩ | ⟨before, c, after, -, -, -, he⟩ := initWork_cases s hp
    · cases he.symm.trans h
      have hmodes := (silent_openAll (boundChannels s.regs) s).trans (silent_assignModes _)
      exact (hmodes.trans (.of_trace_eq rfl)).respondsOnce .ok 0#8
    · have hfailed := (silent_openAll before s).trans (silent_requestOpen c _)
      exact fatal_respondsOnce (hfailed.trans (silent_closeAll before _)) (he.symm.trans h)
  · change execInit s = .next t at h
    exact inPhase_respondsOnce (fun hconfig _ => absurd hconfig hp) h

/-- NEXT_BYTE's request, close and diagnostic come before its response (R255). -/
theorem execNextByte_respondsOnce (h : exec .nextByte s = .next t) : RespondsOnce s t := by
  have hself : Silent s s := .of_trace_eq rfl
  obtain ⟨-, rfl⟩ | ⟨-, rfl⟩ | ⟨-, b, u, hpr, rfl⟩ := execNextByte_cases h
  · exact hself.respondsOnce ..
  · exact hself.respondsOnce ..
  · exact ((silent_produce hpr).trans (.of_trace_eq rfl)).respondsOnce .ok b

theorem exec_respondsOnce {i : Instr} (h : exec i s = .next t) : RespondsOnce s t := by
  cases i with
  | setStructure struct =>
    change execSetStructure struct s = .next t at h
    exact inPhase_write_respondsOnce rfl h
  | setFraming frm crc4 =>
    change execSetFraming frm crc4 s = .next t at h
    exact inPhase_write_respondsOnce rfl h
  | setSilence sil =>
    change execSetSilence sil s = .next t at h
    exact inPhase_write_respondsOnce rfl h
  | bind => exact execBind_respondsOnce h
  | init => exact execInit_respondsOnce h
  | nextByte => exact execNextByte_respondsOnce h
  | readStatus | readCursor | readFrame | readTsMode => exact respond_respondsOnce (.of_trace_eq rfl) h

theorem executeWord_respondsOnce {w : CommandWord} (h : executeWord w s = .next t) : RespondsOnce s t := by
  obtain ⟨i, -, hexec⟩ | rfl := executeWord_cases h
  · exact exec_respondsOnce hexec
  · exact (Silent.of_trace_eq rfl).respondsOnce ..

/-! ### Completion -/

/-- A phase-checked command completes if its own work does in its phase. -/
theorem inPhase_completes {p : Phase} {body : State → Result}
    (hbody : s.regs.phase = p → ∃ t, body s = .next t) : ∃ t, inPhase p body s = .next t := by
  obtain ⟨-, he⟩ | ⟨-, -, he⟩ | ⟨-, hp, he⟩ := inPhase_cases (p := p) (body := body) s
  · exact ⟨_, he⟩
  · exact ⟨_, he⟩
  · rw [he]
    exact hbody hp

theorem execBind_completes (ts : BitVec 8) (chan : ChannelId) (s : State) : ∃ t, execBind ts chan s = .next t := by
  refine inPhase_completes fun _ => ?_
  split
  · split
    · exact ⟨_, fatal_eq ..⟩
    · exact ⟨_, rfl⟩
  · exact ⟨_, fatal_eq ..⟩

theorem execInit_completes (s : State) : ∃ t, exec .init s = .next t := by
  by_cases hp : s.regs.phase = .config
  · obtain ⟨-, he⟩ | ⟨before, c, after, -, -, -, he⟩ := initWork_cases s hp
    · exact ⟨_, he⟩
    · exact ⟨_, he.trans (fatal_eq ..)⟩
  · change ∃ t, execInit s = .next t
    exact inPhase_completes fun hconfig => absurd hconfig hp

/-- Every command completes while no timeslot of a RUNNING engine is UNBOUND (R175). -/
theorem exec_completes (i : Instr) (hassigned : s.regs.phase = .running → ∀ ts, readBank s.regs.mode ts ≠ .unbound) :
    ∃ t, exec i s = .next t := by
  cases i with
  | setStructure struct =>
    change ∃ t, execSetStructure struct s = .next t
    exact inPhase_completes fun _ => ⟨_, rfl⟩
  | setFraming frm crc4 =>
    change ∃ t, execSetFraming frm crc4 s = .next t
    exact inPhase_completes fun _ => ⟨_, rfl⟩
  | setSilence sil =>
    change ∃ t, execSetSilence sil s = .next t
    exact inPhase_completes fun _ => ⟨_, rfl⟩
  | bind ts chan => exact execBind_completes ts chan s
  | init => exact execInit_completes s
  | nextByte =>
    change ∃ t, execNextByte s = .next t
    refine inPhase_completes fun hrunning => ?_
    obtain ⟨b, u, hpr⟩ := produce_ok s.regs.cursor s.regs.frame s (hassigned hrunning _)
    rw [hpr]
    exact ⟨_, rfl⟩
  | readStatus | readCursor | readFrame | readTsMode => exact ⟨_, rfl⟩

theorem executeWord_completes (w : CommandWord) (hinv : Inv s) : ∃ t, executeWord w s = .next t := by
  cases hdec : decode w with
  | ok i =>
    rw [executeWord_of_decode_ok hdec]
    exact exec_completes i hinv.runningAssigned
  | error r => exact ⟨_, executeWord_of_decode_error hdec⟩

/-- Settles O14: one response by the cases of each command, completion by the invariant's R46 (b), and the layout of
the response word by its two fields. -/
theorem everyCommandGivesOneResponse : Obligations.EveryCommandGivesOneResponse := by
  refine ⟨fun w s t h => executeWord_respondsOnce h, fun w s hinv => executeWord_completes w hinv, ?_⟩
  intro status data
  obtain ⟨hstatus, hdata⟩ := respWord_fields status data
  exact ⟨hstatus, by rwa [BitVec.setWidth_eq_extractLsb' (by decide)] at hdata⟩

end Sys2Proof.Machine
end

section
/-! The two framing ROMs are read at the frame counter's remainder (R151, R152). -/

namespace Sys2Proof.Machine

/-- The low `k` bits of a word are its remainder by `2 ^ k`. -/
theorem extractLsb'_zero_eq_ofNat_mod {n : ℕ} (k : ℕ) (x : BitVec n) :
    x.extractLsb' 0 k = BitVec.ofNat k (x.toNat % 2 ^ k) := by
  apply BitVec.eq_of_toNat_eq
  simp

theorem syncWord_eq_readBank_mod (roms : Roms) (f : FrameCount) :
    syncWord roms f = readBank roms.sync (BitVec.ofNat 1 (f.toNat % 2)) :=
  congrArg (readBank roms.sync) (extractLsb'_zero_eq_ofNat_mod 1 f)

theorem alignWord_eq_readBank_mod (roms : Roms) (f : FrameCount) :
    alignWord roms f = readBank roms.align (BitVec.ofNat 4 (f.toNat % 16)) :=
  congrArg (readBank roms.align) (extractLsb'_zero_eq_ofNat_mod 4 f)

theorem framing_doubleFrame (roms : Roms) (f : FrameCount) : framing roms f .doubleFrame = syncWord roms f := rfl

theorem framing_multiframe (roms : Roms) (f : FrameCount) :
    framing roms f .multiframe = syncWord roms f ||| alignWord roms f := rfl

/-- Settles O42, mode by mode: each ROM is indexed by the low bits of the frame counter, which are its remainder. -/
theorem framingFunctionReadsTheTwoTables : Obligations.FramingFunctionReadsTheTwoTables := by
  intro roms f
  constructor
  · rw [framing_doubleFrame, syncWord_eq_readBank_mod]
  · rw [framing_multiframe, syncWord_eq_readBank_mod, alignWord_eq_readBank_mod]

end Sys2Proof.Machine
end

section
/-! NEXT_BYTE evaluates the source of the cursor's timeslot alone (R171): the octets of a SILENCE timeslot (R172) and
of an EXT timeslot with a closed channel (R177), and what every source leaves untouched. -/

namespace Sys2Proof.Machine

variable {s u v : State} {ts : Timeslot} {c : ChannelId}

/-! ### The source the selector picks (R170) -/

theorem produce_silence (f : FrameCount) (hmode : readBank s.regs.mode ts = .silence) :
    produce ts f s = .ok (s.regs.silence, s) := by simp [produce, hmode, silenceOctet]

theorem produce_ext (f : FrameCount) (hmode : readBank s.regs.mode ts = .ext) :
    produce ts f s = .ok (extOctet ts s) := by simp [produce, hmode]

/-- Degrading a timeslot of a closed channel closes nothing: its mode and one diagnostic are all that changes. -/
theorem degrade_closed (reason : DiagReason) (hclosed : readBank s.regs.chanOpen c = false) :
    degrade ts c reason s =
      (s.regs.silence,
        { s with
          regs := { s.regs with mode := writeBank s.regs.mode ts .silence }
          env := { s.env with trace := s.env.trace ++ [.diag ts c reason] } }) := by
  rw [degrade_eq, writeBank_closed c hclosed]
  simp [hclosed]

/-- Settles O30: the selector answers the silence byte and leaves the state to the counters. -/
theorem nextByteOfASilenceTimeslot : Obligations.NextByteOfASilenceTimeslot := by
  intro s hrunning hmode
  rw [execNextByte_of_produce hrunning (produce_silence _ hmode)]
  rfl

/-- Settles O34: with its channel closed the external source is the degrade alone, which then closes nothing. -/
theorem nextByteOfAClosedChannelDegradesWithoutARead :
    Obligations.NextByteOfAClosedChannelDegradesWithoutARead := by
  rintro s c hrunning hmode rfl hclosed
  have hproduce := produce_ext s.regs.frame hmode
  rw [extOctet_closed _ s hclosed, degrade_closed .closed hclosed] at hproduce
  refine ⟨writeBank s.regs.mode s.regs.cursor .silence, ?_, fun t => ?_⟩
  · rw [execNextByte_of_produce hrunning hproduce]
    simp [emit, advance]
  · simp only [readBank_writeBank, eq_comm]

/-! ### What one timeslot's source can touch (R171) -/

/-- An event that a NEXT_BYTE of timeslot `ts`, bound to channel `c`, may record. -/
def OwnEvent (ts : Timeslot) (c : ChannelId) (e : Event) : Prop :=
  (∃ r, e = .resp r) ∨ (∃ a, e = .chanRead c a) ∨ e = .chanClose c ∨ ∃ r, e = .diag ts c r

/-- From `s` to `u` no other timeslot's mode and no other channel has changed, and every new event is of timeslot
`ts` and channel `c`. -/
structure TouchesOnly (ts : Timeslot) (c : ChannelId) (s u : State) : Prop where
  modes : ∀ x, x ≠ ts → readBank u.regs.mode x = readBank s.regs.mode x
  channels : ∀ d, d ≠ c → readBank u.regs.chanOpen d = readBank s.regs.chanOpen d ∧ feed d u = feed d s
  events : ∃ es, u.env.trace = s.env.trace ++ es ∧ ∀ e ∈ es, OwnEvent ts c e

theorem TouchesOnly.refl (ts : Timeslot) (c : ChannelId) (s : State) : TouchesOnly ts c s s :=
  ⟨fun _ _ => rfl, fun _ _ => ⟨rfl, rfl⟩, [], by simp, by simp⟩

theorem TouchesOnly.trans (hsu : TouchesOnly ts c s u) (huv : TouchesOnly ts c u v) : TouchesOnly ts c s v := by
  obtain ⟨hmode, hchan, es, htrace, hes⟩ := hsu
  obtain ⟨hmode', hchan', es', htrace', hes'⟩ := huv
  refine ⟨fun x hx => (hmode' x hx).trans (hmode x hx), fun d hd => ?_, es ++ es', ?_, ?_⟩
  · obtain ⟨hopen, hfeed⟩ := hchan d hd
    obtain ⟨hopen', hfeed'⟩ := hchan' d hd
    exact ⟨hopen'.trans hopen, hfeed'.trans hfeed⟩
  · rw [htrace', htrace, List.append_assoc]
  · exact fun e he => (List.mem_append.1 he).elim (hes e) (hes' e)

theorem touchesOnly_emit {e : Event} (he : OwnEvent ts c e) (s : State) : TouchesOnly ts c s (emit e s) :=
  ⟨fun _ _ => rfl, fun _ _ => ⟨rfl, rfl⟩, [e], rfl, by simpa using he⟩

theorem touchesOnly_advance (f : FrameCount) (s : State) : TouchesOnly ts c s (advance ts f s) :=
  ⟨fun _ _ => rfl, fun _ _ => ⟨rfl, rfl⟩, [], by simp, by simp⟩

theorem touchesOnly_requestRead (ts : Timeslot) (c : ChannelId) (s : State) :
    TouchesOnly ts c s (requestRead c s) := by
  refine ⟨fun _ _ => rfl, fun d hd => ⟨rfl, ?_⟩, _, rfl, ?_⟩
  · rw [feed_requestRead, if_neg hd.symm]
  · simp [OwnEvent]

/-- The degrade writes its own timeslot's mode and its own channel's open bit; it closes that channel at most
(R178). -/
theorem touchesOnly_degrade (ts : Timeslot) (c : ChannelId) (reason : DiagReason) (s : State) :
    TouchesOnly ts c s (degrade ts c reason s).2 := by
  rw [degrade_eq]
  refine ⟨fun x hx => readBank_writeBank_ne _ _ hx.symm,
    fun d hd => ⟨readBank_writeBank_ne _ _ hd.symm, rfl⟩, _, List.append_assoc .., ?_⟩
  split <;> simp [OwnEvent]

/-- The external source is at most one read of the bound channel, then at most one degrade (R176, R177). -/
theorem touchesOnly_extOctet (ts : Timeslot) (s : State) :
    TouchesOnly ts (readBank s.regs.bindChan ts) s (extOctet ts s).2 := by
  obtain ⟨b, he, -, -⟩ | ⟨reason, s₁, he, hs₁⟩ := extOctet_cases ts s
  · rw [he]
    exact touchesOnly_requestRead ..
  · rw [he]
    obtain ⟨rfl, -⟩ | ⟨rfl, -⟩ := hs₁
    · exact touchesOnly_degrade ..
    · exact (touchesOnly_requestRead ..).trans (touchesOnly_degrade ..)

/-- Only the external source touches anything at all; the silence and sync sources read registers and ROMs. -/
theorem touchesOnly_produce {f : FrameCount} {b : Byte} (h : produce ts f s = .ok (b, u)) :
    TouchesOnly ts (readBank s.regs.bindChan ts) s u := by
  unfold produce at h
  split at h
  · cases h; exact .refl ..
  · cases h; exact .refl ..
  · have hext : extOctet ts s = (b, u) := by injection h
    simpa [hext] using touchesOnly_extOctet ts s
  · cases h

/-- Settles O37: a refusal only responds, and in RUNNING the cursor's source, the counters and the response each
touch only the cursor's timeslot and its channel. -/
theorem nextByteTouchesOnlyTheCursorsTimeslot : Obligations.NextByteTouchesOnlyTheCursorsTimeslot := by
  intro s t h
  have hresp (r : ResponseWord) (u : State) :
      TouchesOnly s.regs.cursor (readBank s.regs.bindChan s.regs.cursor) u (emit (.resp r) u) :=
    touchesOnly_emit (.inl ⟨r, rfl⟩) u
  have htouches : TouchesOnly s.regs.cursor (readBank s.regs.bindChan s.regs.cursor) s t := by
    obtain ⟨-, rfl⟩ | ⟨-, rfl⟩ | ⟨-, b, u, hproduce, rfl⟩ := execNextByte_cases h
    · exact hresp _ s
    · exact hresp _ s
    · exact ((touchesOnly_produce hproduce).trans (touchesOnly_advance ..)).trans (hresp ..)
  exact ⟨htouches.modes, htouches.channels, htouches.events⟩

end Sys2Proof.Machine
end

section
/-! The configuration commands. Each is the phase check of CONFIG around its own work (R200, R205, R210, R215): the
operand stands in the word's low bits, and BIND checks its range before it looks for a duplicate (R305). -/

/-! ### A word with its operand in the low bits -/

namespace Sys2Proof

variable {k : ℕ} {p : CommandWord}

/-- The fields above an operand in the low bits do not see it. -/
theorem extractLsb'_or_setWidth_above (x : BitVec k) {start len : ℕ} (habove : k ≤ start) :
    (p ||| x.setWidth 32).extractLsb' start len = p.extractLsb' start len := by
  ext i hi
  have hout : x.getLsbD (start + i) = false := BitVec.getLsbD_of_ge x _ (by omega)
  simp [hout]

/-- Where the rest of the word is zero in the low bits, they are the operand. -/
theorem extractLsb'_or_setWidth_low (x : BitVec k) (hk : k ≤ 32) (hzero : p.extractLsb' 0 k = 0#k) :
    (p ||| x.setWidth 32).extractLsb' 0 k = x := by
  rw [BitVec.extractLsb'_or, hzero, ← BitVec.setWidth_eq_extractLsb' hk, BitVec.setWidth_setWidth_of_le x hk,
    BitVec.setWidth_eq, BitVec.zero_or]

theorem decode_setStructure_word {struct : BitVec 2} (hlegal : WellFormed (.setStructure struct) = true) :
    decode (0x10000000#32 ||| struct.setWidth 32) = .ok (.setStructure struct) := by
  have hop : opField (0x10000000#32 ||| struct.setWidth 32) = 1#4 :=
    extractLsb'_or_setWidth_above struct (by decide)
  have hreserved : (0x10000000#32 ||| struct.setWidth 32).extractLsb' 2 26 = 0#26 :=
    extractLsb'_or_setWidth_above struct (by decide)
  have hstruct : (0x10000000#32 ||| struct.setWidth 32).extractLsb' 0 2 = struct :=
    extractLsb'_or_setWidth_low struct (by decide) rfl
  have hne : struct ≠ 3#2 := bne_iff_ne.1 hlegal
  rw [decode_eq_decodeSetStructure hop, decodeSetStructure_ok hreserved (by rwa [hstruct]), hstruct]

/-- Format F has four words, one for each pair of operands (R104). -/
theorem decode_setFraming_word (frm : FramingMode) (crc4 : Bool) :
    decode (0x20000000#32 ||| (if crc4 then 2#32 else 0#32) ||| (if frm = .multiframe then 1#32 else 0#32)) =
      .ok (.setFraming frm crc4) := by
  cases frm <;> cases crc4 <;> decide

theorem decode_setSilence_word (sil : Byte) :
    decode (0x30000000#32 ||| sil.setWidth 32) = .ok (.setSilence sil) := by
  have hop : opField (0x30000000#32 ||| sil.setWidth 32) = 3#4 :=
    extractLsb'_or_setWidth_above sil (by decide)
  have hreserved : (0x30000000#32 ||| sil.setWidth 32).extractLsb' 8 20 = 0#20 :=
    extractLsb'_or_setWidth_above sil (by decide)
  have hsil : (0x30000000#32 ||| sil.setWidth 32).extractLsb' 0 8 = sil :=
    extractLsb'_or_setWidth_low sil (by decide) rfl
  rw [decode_eq_decodeSetSilence hop, decodeSetSilence_ok hreserved, hsil]

end Sys2Proof

/-! ### The commands, phase by phase -/

namespace Sys2Proof.Machine

variable {s : State} {ts : BitVec 8} {chan : ChannelId}

/-! Each command as the phase check of CONFIG around what it does once admitted. -/

theorem exec_setStructure (struct : BitVec 2) (s : State) :
    exec (.setStructure struct) s =
      inPhase .config (fun s => respond .ok 0#8 { s with regs := { s.regs with structureMode := struct } }) s := rfl

theorem exec_setFraming (frm : FramingMode) (crc4 : Bool) (s : State) :
    exec (.setFraming frm crc4) s =
      inPhase .config
        (fun s => respond .ok 0#8 { s with regs := { s.regs with framing := frm, crc4Req := crc4 } }) s := rfl

theorem exec_setSilence (sil : Byte) (s : State) :
    exec (.setSilence sil) s =
      inPhase .config (fun s => respond .ok 0#8 { s with regs := { s.regs with silence := sil } }) s := rfl

theorem exec_bind (ts : BitVec 8) (chan : ChannelId) (s : State) :
    exec (.bind ts chan) s =
      inPhase .config
        (fun s =>
          if tsInRange ts then
            if readBank s.regs.bindValid (tsIndex ts) then fatal .errDup s
            else respond .ok 0#8 (setBinding (tsIndex ts) chan s)
          else fatal .errRange s) s := rfl

/-- A command that CONFIG alone admits, in each of the three phases (R303, R304, R305). -/
theorem exec_by_phase {i : Instr} {body : State → Result} (hexec : exec i s = inPhase .config body s) :
    (s.regs.phase = .config → exec i s = body s) ∧
      (s.regs.phase = .running → exec i s = respond .errPhase 0#8 s) ∧
      (s.regs.phase = .failed → exec i s = respond .errFailed 0#8 s) := by
  rw [hexec]
  refine ⟨fun hconfig => inPhase_admitted hconfig (by decide), fun hrunning => ?_, inPhase_failed⟩
  exact inPhase_wrong (by simp [hrunning]) (by simp [hrunning])

/-- Settles O16: the word by its fields, the effect by the phase check. -/
theorem setStructureWritesStructure : Obligations.SetStructureWritesStructure := fun struct s hlegal =>
  ⟨decode_setStructure_word hlegal, exec_by_phase (exec_setStructure struct s)⟩

/-- Settles O17: the word operand by operand, the effect by the phase check. -/
theorem setFramingWritesFramingAndCrcRequest : Obligations.SetFramingWritesFramingAndCrcRequest := fun frm crc4 s =>
  ⟨decode_setFraming_word frm crc4, exec_by_phase (exec_setFraming frm crc4 s)⟩

/-- Settles O18: the word by its fields, the effect by the phase check. -/
theorem setSilenceWritesSilence : Obligations.SetSilenceWritesSilence := fun sil s =>
  ⟨decode_setSilence_word sil, exec_by_phase (exec_setSilence sil s)⟩

/-! ### BIND's own work in CONFIG, branch by branch (R215) -/

theorem tsInRange_iff : tsInRange ts = true ↔ ts.toNat < 32 := by simp [tsInRange]

theorem execBind_outOfRange (hconfig : s.regs.phase = .config) (hrange : ¬ ts.toNat < 32) :
    exec (.bind ts chan) s = fatal .errRange s :=
  ((exec_by_phase (exec_bind ts chan s)).1 hconfig).trans (if_neg (mt tsInRange_iff.1 hrange))

/-- In range, BIND is decided by whether the timeslot is bound. -/
theorem execBind_inRange (hconfig : s.regs.phase = .config) (hrange : ts.toNat < 32) :
    exec (.bind ts chan) s =
      if readBank s.regs.bindValid (tsIndex ts) then fatal .errDup s
      else respond .ok 0#8 (setBinding (tsIndex ts) chan s) :=
  ((exec_by_phase (exec_bind ts chan s)).1 hconfig).trans (if_pos (tsInRange_iff.2 hrange))

theorem execBind_bound (hconfig : s.regs.phase = .config) (hrange : ts.toNat < 32)
    (hbound : readBank s.regs.bindValid (tsIndex ts) = true) : exec (.bind ts chan) s = fatal .errDup s :=
  (execBind_inRange hconfig hrange).trans (if_pos hbound)

/-- Settles O20: the range check fails, and fatal entry with ERR_RANGE, code 3, is all that happens. -/
theorem bindOutOfRangeIsFatal : Obligations.BindOutOfRangeIsFatal := fun _ _ s hconfig hrange =>
  (execBind_outOfRange hconfig (not_lt_of_ge hrange)).trans (fatal_eq .errRange s)

/-- Settles O21: the range check passes, and fatal entry with ERR_DUP, code 4, writes no binding. -/
theorem bindOfABoundTimeslotIsFatal : Obligations.BindOfABoundTimeslotIsFatal :=
  fun _ _ s hconfig hrange hbound => (execBind_bound hconfig hrange hbound).trans (fatal_eq .errDup s)

end Sys2Proof.Machine
end

section
/-! INIT in CONFIG by the answers of the bound channels (R240): all of them open and the engine runs (R245, R249,
R250), or the first that answers FAIL undoes the opens (R244); and the order in which they are asked (R241). -/

namespace Sys2Proof.Machine

variable {s : State} {r : Regs} {before after : List ChannelId} {c : ChannelId}

/-! ### INIT with every bound channel open -/

/-- The state INIT reaches before it responds, when every bound channel answers OK. -/
def initialised (s : State) : State := startRunning (assignModes (openAll (boundChannels s.regs) s))

theorem execInit_opened (hconfig : s.regs.phase = .config) (hok : ∀ c ∈ boundChannels s.regs, openAnswer c s = .ok) :
    exec .init s = .next (emit (.resp (respWord .ok 0#8)) (initialised s)) := by
  obtain ⟨-, hexec⟩ | ⟨before, c, after, hbound, -, hfail, -⟩ := initWork_cases s hconfig
  · exact hexec
  · have hanswer := hok c (by simp [hbound])
    rw [hfail] at hanswer
    cases hanswer

/-- The answers of the bound timeslots' channels are those of the bound channels. -/
theorem openAnswer_boundChannels
    (hok : ∀ t, readBank s.regs.bindValid t = true → openAnswer (readBank s.regs.bindChan t) s = .ok) :
    ∀ c ∈ boundChannels s.regs, openAnswer c s = .ok := by
  intro c hc
  obtain ⟨t, hvalid, rfl⟩ := mem_boundChannels.1 hc
  exact hok t hvalid

theorem initialised_regs (s : State) :
    (initialised s).regs =
      { s.regs with
        phase := .running
        cursor := 0#5
        frame := 0#32
        mode := ascending.foldl (fun v t => writeBank v t (assignedMode s.regs t)) s.regs.mode
        chanOpen := (boundChannels s.regs).foldl (fun v c => writeBank v c true) s.regs.chanOpen } := by
  simp only [initialised, startRunning_regs, assignModes_eq, openAll_regs]
  rfl

theorem initialised_mode (s : State) (t : Timeslot) :
    readBank (initialised s).regs.mode t = assignedMode s.regs t := by
  simp [initialised_regs, readBank_foldl_writeBank (assignedMode s.regs), mem_ascending]

theorem initialised_chanOpen (s : State) (c : ChannelId) :
    readBank (initialised s).regs.chanOpen c = true ↔
      c ∈ boundChannels s.regs ∨ readBank s.regs.chanOpen c = true := by
  simp [initialised_regs, readBank_foldl_const]

/-- Beside the registers, INIT's success moves the channels and the trace as its opens do. -/
theorem initialised_env (s : State) :
    (initialised s).roms = (openAll (boundChannels s.regs) s).roms ∧
      (initialised s).env = (openAll (boundChannels s.regs) s).env := by
  simp [initialised, assignModes_eq]

/-- Settles O24: the opens write `R.CHAN_OPEN` alone, the assignment `R.MODE` alone, and the start the counters and
the phase. -/
theorem initAssignsModesAndRuns : Obligations.InitAssignsModesAndRuns := by
  intro s hconfig hok
  replace hok := openAnswer_boundChannels hok
  obtain ⟨-, hroms, hinputs, -, -⟩ := openAll_eq _ s (nodup_boundChannels s.regs) hok
  obtain ⟨hroms', henv⟩ := initialised_env s
  refine ⟨_, execInit_opened hconfig hok, ?phase, ?cursor, ?frame, initialised_mode s, fun c => ?chanOpen,
    ?_, ?_, ?_, ?_, ?_, ?_, ?_, hroms'.trans hroms, ?inputs, lastEvent_emit ..⟩
  case chanOpen => exact (initialised_chanOpen s c).trans (or_congr_left mem_boundChannels)
  case inputs => simp [henv, hinputs]
  all_goals simp [initialised_regs]

/-! ### The order of the opens (R241) -/

/-- Channel `c` is bound to a timeslot below every timeslot bound to `d`. -/
def BoundBelow (r : Regs) (c d : ChannelId) : Prop :=
  ∃ t, readBank r.bindValid t = true ∧ readBank r.bindChan t = c ∧
    ∀ v, readBank r.bindValid v = true → readBank r.bindChan v = d → t.toNat < v.toNat

theorem ascending_sorted : ascending.Pairwise fun t v => t.toNat < v.toNat := by decide

theorem boundOf_cons (r : Regs) (t : Timeslot) (ts : List Timeslot) :
    boundOf r (t :: ts) =
      if readBank r.bindValid t then readBank r.bindChan t :: boundOf r ts else boundOf r ts := by
  cases hvalid : readBank r.bindValid t <;> simp [boundOf, hvalid]

/-- A visit of timeslots in ascending order, at which every timeslot already visited is served by `opened`, meets the
channels still to open in the order of their lowest timeslots. -/
theorem newChannels_sorted (ts : List Timeslot) (opened : List ChannelId)
    (hsorted : ts.Pairwise fun t v => t.toNat < v.toNat)
    (hvisited : ∀ v, readBank r.bindValid v = true → v ∉ ts → readBank r.bindChan v ∈ opened) :
    (newChannels (boundOf r ts) opened).Pairwise (BoundBelow r) := by
  induction ts generalizing opened with
  | nil => exact .nil
  | cons t ts ih =>
    obtain ⟨hbelow, hsorted⟩ := List.pairwise_cons.1 hsorted
    have hvisit (opened' : List ChannelId) (hsub : opened ⊆ opened')
        (ht : readBank r.bindValid t = true → readBank r.bindChan t ∈ opened') :
        ∀ v, readBank r.bindValid v = true → v ∉ ts → readBank r.bindChan v ∈ opened' := by
      intro v hvalid hv
      by_cases hvt : v = t
      · exact hvt ▸ ht (hvt ▸ hvalid)
      · exact hsub (hvisited v hvalid (by simp [hvt, hv]))
    rw [boundOf_cons]
    split
    · next hvalid =>
      unfold newChannels
      split
      · next hopen => exact ih opened hsorted (hvisit opened (List.Subset.refl _) fun _ => hopen)
      · refine List.pairwise_cons.2 ⟨fun d hd => ⟨t, hvalid, rfl, fun v hvalid' hvd => ?_⟩,
          ih _ hsorted (hvisit _ (List.subset_append_left ..) fun _ => by simp)⟩
        by_contra hle
        have hvts : v ∉ ts := fun hv => hle (hbelow v hv)
        have hopen := hvisit (opened ++ [readBank r.bindChan t]) (List.subset_append_left ..) (by simp) v hvalid' hvts
        exact newChannels_disjoint hd (hvd ▸ hopen)
    · next hvalid => exact ih opened hsorted (hvisit opened (List.Subset.refl _) fun h => absurd h hvalid)

theorem boundChannels_sorted (r : Regs) : (boundChannels r).Pairwise (BoundBelow r) := by
  rw [boundChannels_eq]
  exact newChannels_sorted ascending [] ascending_sorted fun v _ hv => absurd (mem_ascending v) hv

/-- Settles O25: the channels asked are `boundChannels`, each once, sorted by lowest timeslot. -/
theorem initOpensEachBoundChannelOnceInTimeslotOrder :
    Obligations.InitOpensEachBoundChannelOnceInTimeslotOrder := by
  intro s hconfig hok
  replace hok := openAnswer_boundChannels hok
  have hnodup := nodup_boundChannels s.regs
  obtain ⟨-, -, -, hfeed, htrace⟩ := openAll_eq _ s hnodup hok
  obtain ⟨-, henv⟩ := initialised_env s
  refine ⟨_, boundChannels s.regs, execInit_opened hconfig hok, ?trace, hnodup, fun _ => mem_boundChannels,
    fun c d hsub => List.pairwise_iff_forall_sublist.1 (boundChannels_sorted s.regs) hsub, fun c => ?feed⟩
  case trace => simp [henv, htrace]
  case feed =>
    rw [← hfeed c]
    simp [feed, henv]

/-! ### INIT with a failed open (R244) -/

theorem execInit_failed (hconfig : s.regs.phase = .config) (hbound : boundChannels s.regs = before ++ c :: after)
    (hok : ∀ d ∈ before, openAnswer d s = .ok) (hfail : openAnswer c s = .fail) :
    exec .init s = fatal .errOpen (closeAll before (requestOpen c (openAll before s))) := by
  rw [boundChannels_eq] at hbound
  have hloop := openBound_fail (r := s.regs) ascending [] s rfl rfl hbound hok hfail
  change execInit s = _
  unfold execInit
  rw [inPhase_admitted hconfig (by decide), hloop]
  rfl

/-- Closing again what was opened from all channels closed leaves all of them closed. -/
theorem closes_undo_opens {v : Bank 5 Bool} (hclosed : ∀ d, readBank v d = false) (cs : List ChannelId) :
    cs.foldl (fun v c => writeBank v c false) (cs.foldl (fun v c => writeBank v c true) v) = v := by
  apply bank_ext
  intro d
  rw [readBank_foldl_const, readBank_foldl_const]
  by_cases hd : d ∈ cs <;> simp [hd, hclosed d]

/-- A channel that was not among those opened still gives the answer it would have given before. -/
theorem openAnswer_openAll (hnodup : before.Nodup) (hok : ∀ d ∈ before, openAnswer d s = .ok) (hc : c ∉ before) :
    openAnswer c (openAll before s) = openAnswer c s := by
  obtain ⟨-, -, -, hfeed, -⟩ := openAll_eq before s hnodup hok
  simp [openAnswer, hfeed c, hc]

/-- Settles O27: the opens before the failed one are undone in the same order, and the failed channel, which was
asked but never opened, needs no undoing. -/
theorem initStopsAtTheFirstFailedOpen : Obligations.InitStopsAtTheFirstFailedOpen := by
  intro s before after c hconfig hclosed hbound hok hfail
  have hnodup := nodup_boundChannels s.regs
  rw [hbound, List.nodup_append] at hnodup
  obtain ⟨hnodup, -, hdisjoint⟩ := hnodup
  have hc : c ∉ before := fun hmem => hdisjoint c hmem c (by simp) rfl
  obtain ⟨hregs, hroms, hinputs, hfeed, htrace⟩ := openAll_eq before s hnodup hok
  have hanswer : openAnswer c (openAll before s) = .fail := (openAnswer_openAll hnodup hok hc).trans hfail
  refine ⟨_, (execInit_failed hconfig hbound hok hfail).trans (fatal_eq ..), ?regs, ?roms, ?inputs, ?trace,
    fun d => ?feed⟩
  case regs => simp [closeAll_eq, closes_undo_opens hclosed, statusCode]
  case roms => simp [closeAll_eq, hroms]
  case inputs => simp [closeAll_eq, hinputs]
  case trace => simp [closeAll_eq, htrace, hanswer]
  case feed =>
    have hrequest := feed_requestOpen c d (openAll before s)
    rw [hfeed c, hfeed d, if_neg hc] at hrequest
    simp only [closeAll_eq]
    change feed d (requestOpen c (openAll before s)) = _
    rw [hrequest]
    by_cases hdc : c = d
    · simp [hdc]
    · simp [hdc, Ne.symm hdc]

end Sys2Proof.Machine
end

section
/-! NEXT_BYTE by phase: refused outside RUNNING (R252), one octet in RUNNING (R257). -/

namespace Sys2Proof.Machine

/-- Settles O36: no timeslot of a RUNNING engine is UNBOUND, so the cursor's source gives an octet, and no source
writes the phase. -/
theorem nextByteNeverFailsInRunning : Obligations.NextByteNeverFailsInRunning := by
  intro s hinv hrunning
  obtain ⟨b, u, hproduce⟩ := produce_ok s.regs.cursor s.regs.frame s (hinv.runningAssigned hrunning _)
  have hphase : u.regs.phase = s.regs.phase := by
    obtain ⟨-, -, hregs | ⟨-, -, hregs⟩⟩ := produce_regs _ _ _ hproduce
    · rw [hregs]
    · rw [hregs]
  exact ⟨_, b, execNextByte_of_produce hrunning hproduce, lastEvent_emit .., hphase.trans hrunning, rfl⟩

/-- Settles O29: the phase check answers before any source is evaluated. -/
theorem nextByteIsRefusedOutsideRunning : Obligations.NextByteIsRefusedOutsideRunning := by
  intro s
  change (_ → execNextByte s = _) ∧ (_ → execNextByte s = _)
  exact ⟨fun hconfig => inPhase_wrong (by simp [hconfig]) (by simp [hconfig]), inPhase_failed⟩

end Sys2Proof.Machine
end

section
/-! The read commands. Each is one response over the engine's registers, whatever the phase (R280); what is left is
the layout of its DATA (R281, R282, R284, R286) and what the invariant says of the registers it shows. -/

/-! ### A word with its operand added below -/

namespace Sys2Proof

variable {k : ℕ} {p : CommandWord}

/-- Where the rest of the word is zero in the low bits, adding the operand sets them without a carry. -/
theorem add_setWidth_eq_or (x : BitVec k) (hzero : p.extractLsb' 0 k = 0#k) :
    p + x.setWidth 32 = p ||| x.setWidth 32 := by
  refine BitVec.add_eq_or_of_and_eq_zero _ _ ?_
  ext i hi
  by_cases hik : i < k
  · have hbit : p[i] = false := by
      simpa [hik, BitVec.getLsbD_eq_getElem hi] using congrArg (fun y => y.getLsbD i) hzero
    simp [hbit]
  · have hout : x.getLsbD i = false := BitVec.getLsbD_of_ge x _ (by omega)
    simp [hout]

theorem decode_readFrame_word (k : BitVec 2) : decode (0x72000000#32 + k.setWidth 32) = .ok (.readFrame k) := by
  rw [add_setWidth_eq_or k (by decide)]
  have hop : opField (0x72000000#32 ||| k.setWidth 32) = 7#4 := extractLsb'_or_setWidth_above k (by decide)
  have hsel : selField (0x72000000#32 ||| k.setWidth 32) = 2#4 := extractLsb'_or_setWidth_above k (by decide)
  have hreserved : (0x72000000#32 ||| k.setWidth 32).extractLsb' 5 19 = 0#19 :=
    extractLsb'_or_setWidth_above k (by decide)
  have harg : (0x72000000#32 ||| k.setWidth 32).extractLsb' 2 3 = 0#3 :=
    extractLsb'_or_setWidth_above k (by decide)
  have hk : (0x72000000#32 ||| k.setWidth 32).extractLsb' 0 2 = k :=
    extractLsb'_or_setWidth_low k (by decide) rfl
  rw [decode_eq_decodeRead hop, decodeRead_readFrame hsel hreserved harg, hk]

theorem decode_readTsMode_word (t : Timeslot) :
    decode (0x73000000#32 + t.setWidth 32) = .ok (.readTsMode t) := by
  rw [add_setWidth_eq_or t (by decide)]
  have hop : opField (0x73000000#32 ||| t.setWidth 32) = 7#4 := extractLsb'_or_setWidth_above t (by decide)
  have hsel : selField (0x73000000#32 ||| t.setWidth 32) = 3#4 := extractLsb'_or_setWidth_above t (by decide)
  have hreserved : (0x73000000#32 ||| t.setWidth 32).extractLsb' 5 19 = 0#19 :=
    extractLsb'_or_setWidth_above t (by decide)
  have ht : (0x73000000#32 ||| t.setWidth 32).extractLsb' 0 5 = t :=
    extractLsb'_or_setWidth_low t (by decide) rfl
  rw [decode_eq_decodeRead hop, decodeRead_readTsMode hsel hreserved, ht]

end Sys2Proof

namespace Sys2Proof.Machine

variable {s : State}

/-! ### Each read is one response -/

theorem exec_readStatus (s : State) : exec .readStatus s = respond .ok (statusData s.regs) s := rfl

theorem exec_readCursor (s : State) : exec .readCursor s = respond .ok (s.regs.cursor.setWidth 8) s := rfl

theorem exec_readFrame (k : BitVec 2) (s : State) :
    exec (.readFrame k) s = respond .ok (frameOctet s.regs.frame k) s := rfl

theorem exec_readTsMode (t : Timeslot) (s : State) :
    exec (.readTsMode t) s = respond .ok ((modeCode (readBank s.regs.mode t)).setWidth 8) s := rfl

/-- Settles O46, read by read. -/
theorem readsRespondOkAndChangeNothing : Obligations.ReadsRespondOkAndChangeNothing := by
  rintro i s (rfl | rfl | ⟨k, rfl⟩ | ⟨t, rfl⟩)
  · exact ⟨_, exec_readStatus s⟩
  · exact ⟨_, exec_readCursor s⟩
  · exact ⟨_, exec_readFrame k s⟩
  · exact ⟨_, exec_readTsMode t s⟩

/-! ### The layout of DATA -/

theorem statusData_phase (r : Regs) : (statusData r).extractLsb' 6 2 = phaseCode r.phase := by
  ext i hi
  have hcause : r.failCause.getLsbD (6 + i - 3) = false := BitVec.getLsbD_of_ge _ _ (by omega)
  simp [statusData, show 6 + i < 8 by omega, hcause, BitVec.getLsbD_eq_getElem hi]

theorem statusData_failCause (r : Regs) : (statusData r).extractLsb' 3 3 = r.failCause := by
  ext i hi
  simp [statusData, show 3 + i < 6 by omega, show 3 + i < 8 by omega, BitVec.getLsbD_eq_getElem hi]

theorem statusData_low (r : Regs) : (statusData r).extractLsb' 0 3 = 0#3 := by
  ext i hi
  simp [statusData, show i < 6 by omega, hi]

theorem statusData_reset : statusData Regs.reset = 0x00#8 := rfl

theorem phaseCode_ne_three (p : Phase) : phaseCode p ≠ 3#2 := by cases p <;> decide

/-- An operand zero-extended to a DATA octet stands in its low bits, under zeros. -/
theorem setWidth_octet_fields (t : Timeslot) :
    (t.setWidth 8).extractLsb' 0 5 = t ∧ (t.setWidth 8).extractLsb' 5 3 = 0#3 := by
  constructor
  · rw [← BitVec.setWidth_eq_extractLsb' (by decide), BitVec.setWidth_setWidth_of_le t (by decide),
      BitVec.setWidth_eq]
  · ext i hi
    simp

theorem frameOctet_eq_ofNat (f : FrameCount) (k : BitVec 2) :
    frameOctet f k = BitVec.ofNat 8 (f.toNat / 256 ^ k.toNat % 256) := by
  apply BitVec.eq_of_toNat_eq
  have hpow : 2 ^ (8 * k.toNat) = 256 ^ k.toNat := pow_mul 2 8 k.toNat
  simp [frameOctet, Nat.shiftRight_eq_div_pow, hpow]

/-! ### What the invariant says of the registers the reads show -/

/-- Outside RUNNING no timeslot has a mode and the cursor is 0 (R46, R282). -/
theorem Inv.at_rest (hinv : Inv s) (hphase : s.regs.phase ≠ .running) :
    (∀ t, readBank s.regs.mode t = .unbound) ∧ s.regs.cursor = 0#5 := by
  cases h : s.regs.phase with
  | config =>
    obtain ⟨hmode, hcursor, -, -⟩ := hinv.configClean h
    exact ⟨hmode, hcursor⟩
  | running => exact absurd h hphase
  | failed =>
    obtain ⟨hmode, -, -⟩ := hinv.failedClean h
    obtain ⟨hcursor, -⟩ := hinv.failedCounters h
    exact ⟨hmode, hcursor⟩

/-- The causes an engine holds: NONE, or that of a fatal error (R41, R46). -/
theorem Inv.failCause_legal (hinv : Inv s) :
    s.regs.failCause = 0#3 ∨ s.regs.failCause = 3#3 ∨ s.regs.failCause = 4#3 ∨ s.regs.failCause = 5#3 := by
  by_cases h : s.regs.phase = .failed
  · obtain ⟨-, -, hcause⟩ := hinv.failedClean h
    exact .inr hcause
  · exact .inl (hinv.causeOnlyFailed h)

/-! ### The statements -/

/-- Settles O47: DATA field by field, and the invariant on the two codes. -/
theorem readStatusGivesPhaseAndCause : Obligations.ReadStatusGivesPhaseAndCause := by
  refine ⟨by decide, fun s => ?_⟩
  refine ⟨_, exec_readStatus s, ?phase, statusData_failCause _, statusData_low _, ?reset, ?codes⟩
  case phase =>
    rw [statusData_phase]
    cases s.regs.phase <;> rfl
  case reset =>
    intro hreset
    rw [hreset, statusData_reset]
  case codes =>
    intro hinv
    rw [statusData_phase, statusData_failCause]
    exact ⟨phaseCode_ne_three _, hinv.failCause_legal⟩

/-- Settles O48: DATA is the cursor zero-extended, and the cursor is 0 outside RUNNING. -/
theorem readCursorGivesTheCursor : Obligations.ReadCursorGivesTheCursor := by
  refine ⟨by decide, fun s => ?_⟩
  obtain ⟨hcursor, hhigh⟩ := setWidth_octet_fields s.regs.cursor
  refine ⟨_, exec_readCursor s, hcursor, hhigh, fun hinv hphase => ?_⟩
  obtain ⟨-, hzero⟩ := hinv.at_rest hphase
  rw [hzero]
  rfl

/-- Settles O49: the shift of the octet's bits is a division by a power of 256. -/
theorem readFrameGivesOneOctet : Obligations.ReadFrameGivesOneOctet := by
  intro s k
  refine ⟨decode_readFrame_word k, ?_⟩
  rw [exec_readFrame, frameOctet_eq_ofNat]
  rfl

/-- Settles O50: the mode's code zero-extended, and no timeslot has a mode outside RUNNING. -/
theorem readTsModeGivesTheMode : Obligations.ReadTsModeGivesTheMode := by
  intro s t
  refine ⟨decode_readTsMode_word t, _, exec_readTsMode t s, ?code, ?atRest⟩
  case code => cases readBank s.regs.mode t <;> rfl
  case atRest =>
    intro hinv hphase
    obtain ⟨hmode, -⟩ := hinv.at_rest hphase
    rw [hmode t]
    rfl

end Sys2Proof.Machine
end

section
/-! The refusals by phase: every command but a read has one phase that admits it (R303), and FAILED admits none of
them (R304). -/

namespace Sys2Proof.Machine

variable {i : Instr} {p : Phase} {s : State}

/-- The one phase that admits a command; a read has none, as every phase admits it (R280, R303). -/
def admittingPhase : Instr → Option Phase
  | .setStructure _ | .setFraming _ _ | .setSilence _ | .bind _ _ | .init => some .config
  | .nextByte => some .running
  | .readStatus | .readCursor | .readFrame _ | .readTsMode _ => none

/-- A command with an admitting phase is the phase check around its own work. -/
theorem exec_eq_inPhase (hadmits : admittingPhase i = some p) : ∃ body, ∀ s, exec i s = inPhase p body s := by
  cases i with
  | setStructure | setFraming | setSilence | bind | init | nextByte =>
    cases hadmits
    exact ⟨_, fun _ => rfl⟩
  | readStatus | readCursor | readFrame | readTsMode => cases hadmits

theorem read_of_admittingPhase_none (hnone : admittingPhase i = none) :
    i = .readStatus ∨ i = .readCursor ∨ (∃ k, i = .readFrame k) ∨ ∃ t, i = .readTsMode t := by
  cases i with
  | setStructure | setFraming | setSilence | bind | init | nextByte => cases hnone
  | readStatus => exact .inl rfl
  | readCursor => exact .inr (.inl rfl)
  | readFrame k => exact .inr (.inr (.inl ⟨k, rfl⟩))
  | readTsMode t => exact .inr (.inr (.inr ⟨t, rfl⟩))

theorem exec_outOfPhase (hadmits : admittingPhase i = some p) (hphase : s.regs.phase ≠ p)
    (hfailed : s.regs.phase ≠ .failed) : exec i s = respond .errPhase 0#8 s := by
  obtain ⟨body, hexec⟩ := exec_eq_inPhase hadmits
  rw [hexec, inPhase_wrong hphase hfailed]

theorem exec_inFailed (hadmits : admittingPhase i = some p) (hfailed : s.regs.phase = .failed) :
    exec i s = respond .errFailed 0#8 s := by
  obtain ⟨body, hexec⟩ := exec_eq_inPhase hadmits
  rw [hexec, inPhase_failed hfailed]

/-- Settles O22: CONFIG admits the first five commands and RUNNING admits NEXT_BYTE, each not the other's phase. -/
theorem commandsOutOfPhaseAreRefused : Obligations.CommandsOutOfPhaseAreRefused := by
  intro i s
  constructor
  · intro hcommand hrunning
    have hadmits : admittingPhase i = some .config := by
      obtain ⟨_, rfl⟩ | ⟨_, _, rfl⟩ | ⟨_, rfl⟩ | ⟨_, _, rfl⟩ | rfl := hcommand <;> rfl
    exact exec_outOfPhase hadmits (by simp [hrunning]) (by simp [hrunning])
  · rintro rfl hconfig
    exact exec_outOfPhase (p := .running) rfl (by simp [hconfig]) (by simp [hconfig])

/-- Settles O23: a command without an admitting phase is a read; any other meets the phase check, which comes before
its own work. -/
theorem failedEngineRefusesEverythingButReads : Obligations.FailedEngineRefusesEverythingButReads := by
  intro i s hnotRead hfailed
  cases hadmits : admittingPhase i with
  | some p => exact exec_inFailed hadmits hfailed
  | none =>
    obtain hread | hread | ⟨k, hread⟩ | ⟨t, hread⟩ := read_of_admittingPhase_none hadmits
    · obtain ⟨hstatus, -, -, -⟩ := hnotRead 0#2 0#5
      exact absurd hread hstatus
    · obtain ⟨-, hcursor, -, -⟩ := hnotRead 0#2 0#5
      exact absurd hread hcursor
    · obtain ⟨-, -, hframe, -⟩ := hnotRead k 0#5
      exact absurd hread hframe
    · obtain ⟨-, -, -, htsMode⟩ := hnotRead 0#2 t
      exact absurd hread htsMode

end Sys2Proof.Machine
end

section
/-! The reset input (R350): what the step does, and what every register holds after it. -/

namespace Sys2Proof.Machine

variable {s : State} {rest : List HostInput}

/-- With a legal ALIGN_ROM, a step takes the reset input from the inputs and resets the engine (R18, R350). -/
theorem step_reset (hrom : alignRomLegal s.roms.align = true) (hin : s.env.inputs = .reset :: rest) :
    step s = .next (applyReset (dropInput s)) := by
  simp [step, hrom, hin, runInput]

/-- No timeslot is bound after reset: the binding tables and the modes, entry by entry (R33). -/
theorem reset_bindings (u : Timeslot) :
    readBank Regs.reset.bindValid u = false ∧ readBank Regs.reset.bindChan u = 0#5 ∧
      readBank Regs.reset.mode u = .unbound :=
  ⟨readBank_replicate _ u, readBank_replicate _ u, readBank_replicate _ u⟩

theorem reset_chanOpen (c : ChannelId) : readBank Regs.reset.chanOpen c = false := readBank_replicate _ c

/-- The closes of reset, written as one choice for each channel index in ascending order. -/
theorem map_chanClose_filter_ascending (isOpen : ChannelId → Bool) :
    (ascending.filter isOpen).map Event.chanClose =
      ((List.range 32).map (BitVec.ofNat 5)).filterMap fun c => if isOpen c then some (.chanClose c) else none := by
  rw [← List.filterMap_eq_map, List.filterMap_filter]
  rfl

/-- Settles O12: the step is `applyReset` on the state without its first input; `applyReset_eq` gives the registers
and the closes. -/
theorem resetInputRestoresTheResetState : Obligations.ResetInputRestoresTheResetState := by
  intro s rest hrom hin
  refine ⟨_, step_reset hrom hin, rfl, rfl, rfl, rfl, rfl, rfl, reset_bindings, rfl, rfl, reset_chanOpen, ?roms, ?env⟩
  case roms => rw [applyReset_eq, dropInput_roms]
  case env =>
    rw [applyReset_eq, map_chanClose_filter_ascending, dropInput_regs, dropInput_env, hin, List.tail_cons]

end Sys2Proof.Machine
end

section
/-! The two round trips of the encoding (R101 to R115). A word that decodes agrees, field by field, with the word of
the command it decodes to, and the fields of a format cover the word. -/

namespace Sys2Proof

variable {w : CommandWord} {i : Instr}

/-! ### Words by their fields -/

/-- Two words that agree on a field and on the field above it agree on the two together. -/
theorem extractLsb'_eq_append {n start m l : ℕ} {x y : BitVec n}
    (hlow : x.extractLsb' start m = y.extractLsb' start m)
    (hhigh : x.extractLsb' (start + m) l = y.extractLsb' (start + m) l) :
    x.extractLsb' start (m + l) = y.extractLsb' start (m + l) := by
  ext j hj
  by_cases hjm : j < m
  · simpa [hjm] using congrArg (fun z => z.getLsbD j) hlow
  · have hbit := congrArg (fun z => z.getLsbD (j - m)) hhigh
    have hin : j - m < l := by omega
    have hpos : start + m + (j - m) = start + j := by omega
    simpa [hin, hpos] using hbit

/-- Two words that agree on the field of all their bits are the same. -/
theorem eq_of_extractLsb'_eq {x y : CommandWord} (h : x.extractLsb' 0 32 = y.extractLsb' 0 32) : x = y := by
  simpa using h

/-- A word is known from its low operand field, the zero field above it, and its opcode. -/
theorem word_eq_of_fields {k l : ℕ} {x y : CommandWord} (hwidth : k + l = 28)
    (hoperand : x.extractLsb' 0 k = y.extractLsb' 0 k) (hreserved : x.extractLsb' k l = y.extractLsb' k l)
    (hop : opField x = opField y) : x = y := by
  have hlow : x.extractLsb' 0 (k + l) = y.extractLsb' 0 (k + l) :=
    extractLsb'_eq_append hoperand (by simpa using hreserved)
  rw [hwidth] at hlow
  exact eq_of_extractLsb'_eq (extractLsb'_eq_append (m := 28) (l := 4) hlow hop)

/-- A word is its own low operand put under the rest of it. -/
theorem operandWord_eq {k l : ℕ} {p : CommandWord} (hwidth : k + l = 28) (hlow : p.extractLsb' 0 k = 0#k)
    (hrest : p.extractLsb' k l = w.extractLsb' k l) (hop : opField p = opField w) :
    p ||| (w.extractLsb' 0 k).setWidth 32 = w :=
  word_eq_of_fields hwidth (extractLsb'_or_setWidth_low _ (by omega) hlow)
    ((extractLsb'_or_setWidth_above _ le_rfl).trans hrest) ((extractLsb'_or_setWidth_above _ (by omega)).trans hop)

/-- The framing bit read back from the mode it was read as (R107). -/
@[simp] theorem bitOfFraming_framingOfBit (b : Bool) : bitOfFraming (framingOfBit b) = b := by cases b <;> rfl

/-- Where the two operand bits of a SET_FRAMING word stand (R104). -/
theorem encode_setFraming_bits (frm : FramingMode) (crc4 : Bool) :
    (encode (.setFraming frm crc4)).getLsbD 0 = bitOfFraming frm ∧
      (encode (.setFraming frm crc4)).getLsbD 1 = crc4 := by
  cases frm <;> cases crc4 <;> decide

/-- The bits of a SET_FRAMING word above its operands do not depend on them. -/
theorem encode_setFraming_above (frm : FramingMode) (crc4 : Bool) :
    (encode (.setFraming frm crc4)).extractLsb' 2 26 = 0#26 ∧ opField (encode (.setFraming frm crc4)) = 2#4 := by
  cases frm <;> cases crc4 <;> decide

theorem extractLsb'_zero_two_eq {x y : CommandWord} (hzero : x.getLsbD 0 = y.getLsbD 0)
    (hone : x.getLsbD 1 = y.getLsbD 1) : x.extractLsb' 0 2 = y.extractLsb' 0 2 := by
  ext j hj
  obtain rfl | rfl : j = 0 ∨ j = 1 := by omega
  · simpa using hzero
  · simpa using hone

/-- The fields of a BIND word above the channel. -/
theorem bindWord_fields (ts : BitVec 8) :
    opField (opBits 4#4 ||| ts.setWidth 32 <<< 16) = 4#4 ∧
      (opBits 4#4 ||| ts.setWidth 32 <<< 16).extractLsb' 24 4 = 0#4 ∧
      (opBits 4#4 ||| ts.setWidth 32 <<< 16).extractLsb' 16 8 = ts ∧
      (opBits 4#4 ||| ts.setWidth 32 <<< 16).extractLsb' 5 11 = 0#11 ∧
      (opBits 4#4 ||| ts.setWidth 32 <<< 16).extractLsb' 0 5 = 0#5 := by
  revert ts
  decide

/-- Where each field of a BIND word stands (R108). -/
theorem encode_bind_fields (ts : BitVec 8) (chan : ChannelId) :
    opField (encode (.bind ts chan)) = 4#4 ∧ (encode (.bind ts chan)).extractLsb' 24 4 = 0#4 ∧
      (encode (.bind ts chan)).extractLsb' 16 8 = ts ∧ (encode (.bind ts chan)).extractLsb' 5 11 = 0#11 ∧
      (encode (.bind ts chan)).extractLsb' 0 5 = chan := by
  have habove {start len : ℕ} (h : 5 ≤ start) := extractLsb'_or_setWidth_above (len := len)
    (p := opBits 4#4 ||| ts.setWidth 32 <<< 16) chan h
  obtain ⟨hop, hhigh, hts, hmid, hlow⟩ := bindWord_fields ts
  exact ⟨(habove (by decide)).trans hop, (habove (by decide)).trans hhigh, (habove (by decide)).trans hts,
    (habove (by decide)).trans hmid, extractLsb'_or_setWidth_low chan (by decide) hlow⟩

/-! ### Decoding what was encoded -/

theorem decode_encode_bind (ts : BitVec 8) (chan : ChannelId) :
    decode (encode (.bind ts chan)) = .ok (.bind ts chan) := by
  obtain ⟨hop, hhigh, hts, hmid, hchan⟩ := encode_bind_fields ts chan
  rw [decode_eq_decodeBind hop, decodeBind_ok hhigh hmid, hts, hchan]

/-- Decoding undoes encoding on every well-formed command (R111). -/
theorem decode_encode (hlegal : WellFormed i = true) : decode (encode i) = .ok i := by
  cases i with
  | setStructure struct => exact decode_setStructure_word hlegal
  | setFraming frm crc4 => cases frm <;> cases crc4 <;> decide
  | setSilence sil => exact decode_setSilence_word sil
  | bind ts chan => exact decode_encode_bind ts chan
  | init | nextByte | readStatus | readCursor => decide
  | readFrame k =>
    have hword : encode (.readFrame k) = 0x72000000#32 + k.setWidth 32 := (add_setWidth_eq_or k (by decide)).symm
    rw [hword, decode_readFrame_word]
  | readTsMode t =>
    have hword : encode (.readTsMode t) = 0x73000000#32 + t.setWidth 32 := (add_setWidth_eq_or t (by decide)).symm
    rw [hword, decode_readTsMode_word]

/-- Settles O1, command by command. -/
theorem encodeThenDecodeGivesTheCommandBack : Obligations.EncodeThenDecodeGivesTheCommandBack :=
  fun _ hlegal => decode_encode hlegal

/-! ### Encoding what was decoded, format by format -/

/-- A decoder that checks a field answers a command only if the field is as it must be (R114). -/
theorem of_fieldCheck_ok {α : Type} {a b : α} [Decidable (a ≠ b)] {r : IllegalReason} {x : Except IllegalReason Instr}
    (h : (if a ≠ b then .error r else x) = .ok i) : a = b ∧ x = .ok i := by
  split at h
  · cases h
  · next hab => exact ⟨not_not.1 hab, h⟩

theorem decodeSetStructure_encode (hop : opField w = 1#4) (h : decodeSetStructure w = .ok i) :
    WellFormed i = true ∧ encode i = w := by
  obtain ⟨hreserved, h⟩ := of_fieldCheck_ok h
  split at h
  · cases h
  · next hstruct =>
    cases h
    exact ⟨bne_iff_ne.2 hstruct, operandWord_eq (l := 26) rfl rfl hreserved.symm hop.symm⟩

theorem decodeSetFraming_encode (hop : opField w = 2#4) (h : decodeSetFraming w = .ok i) :
    WellFormed i = true ∧ encode i = w := by
  obtain ⟨hreserved, ⟨⟩⟩ := of_fieldCheck_ok h
  obtain ⟨hfrm, hcrc4⟩ := encode_setFraming_bits (framingOfBit (w.getLsbD 0)) (w.getLsbD 1)
  obtain ⟨hzero, hopcode⟩ := encode_setFraming_above (framingOfBit (w.getLsbD 0)) (w.getLsbD 1)
  rw [bitOfFraming_framingOfBit] at hfrm
  exact ⟨rfl, word_eq_of_fields (k := 2) (l := 26) rfl (extractLsb'_zero_two_eq hfrm hcrc4)
    (hzero.trans hreserved.symm) (hopcode.trans hop.symm)⟩

theorem decodeSetSilence_encode (hop : opField w = 3#4) (h : decodeSetSilence w = .ok i) :
    WellFormed i = true ∧ encode i = w := by
  obtain ⟨hreserved, ⟨⟩⟩ := of_fieldCheck_ok h
  exact ⟨rfl, operandWord_eq (l := 20) rfl rfl hreserved.symm hop.symm⟩

theorem decodeBind_encode (hop : opField w = 4#4) (h : decodeBind w = .ok i) :
    WellFormed i = true ∧ encode i = w := by
  unfold decodeBind at h
  split at h
  · cases h
  · next hreserved =>
    cases h
    obtain ⟨hhigh, hmid⟩ := not_or.1 hreserved
    obtain ⟨hop', hhigh', hts, hmid', hchan⟩ := encode_bind_fields (w.extractLsb' 16 8) (w.extractLsb' 0 5)
    have hlow := extractLsb'_eq_append (start := 0) hchan (hmid'.trans (not_not.1 hmid).symm)
    have hmost := extractLsb'_eq_append hlow hts
    exact ⟨rfl, word_eq_of_fields (k := 24) (l := 4) rfl hmost (hhigh'.trans (not_not.1 hhigh).symm)
      (hop'.trans hop.symm)⟩

theorem opBits_fields (op : BitVec 4) : (opBits op).extractLsb' 0 28 = 0#28 ∧ opField (opBits op) = op := by
  revert op
  decide

theorem decodeNoOperand_encode {j : Instr} (hword : encode j = opBits (opField w)) (hlegal : WellFormed j = true)
    (h : decodeNoOperand j w = .ok i) : WellFormed i = true ∧ encode i = w := by
  obtain ⟨hreserved, ⟨⟩⟩ := of_fieldCheck_ok h
  obtain ⟨hzero, hop⟩ := opBits_fields (opField w)
  refine ⟨hlegal, hword ▸ ?_⟩
  exact word_eq_of_fields (k := 0) (l := 28) rfl (Subsingleton.elim _ _) (hzero.trans hreserved.symm) hop

theorem readBits_fields (sel : BitVec 4) :
    (readBits sel).extractLsb' 5 19 = 0#19 ∧ selField (readBits sel) = sel := by
  revert sel
  decide

/-- A read word above its argument: zeros, then the selector (R109). -/
theorem readBits_above_arg (sel : BitVec 4) (hreserved : w.extractLsb' 5 19 = 0#19)
    (hsel : (selField w).toNat = sel.toNat) : (readBits sel).extractLsb' 5 23 = w.extractLsb' 5 23 := by
  obtain ⟨hzero, hsel'⟩ := readBits_fields sel
  exact extractLsb'_eq_append (m := 19) (hzero.trans hreserved.symm)
    (hsel'.trans (BitVec.eq_of_toNat_eq hsel).symm)

theorem decodeRead_encode (hop : opField w = 7#4) (h : decodeRead w = .ok i) :
    WellFormed i = true ∧ encode i = w := by
  obtain ⟨hreserved, h⟩ := of_fieldCheck_ok h
  split at h
  case h_1 hsel =>
    obtain ⟨harg, ⟨⟩⟩ := of_fieldCheck_ok h
    exact ⟨rfl, word_eq_of_fields (k := 5) rfl harg.symm (readBits_above_arg 0#4 hreserved hsel) hop.symm⟩
  case h_2 hsel =>
    obtain ⟨harg, ⟨⟩⟩ := of_fieldCheck_ok h
    exact ⟨rfl, word_eq_of_fields (k := 5) rfl harg.symm (readBits_above_arg 1#4 hreserved hsel) hop.symm⟩
  case h_3 hsel =>
    obtain ⟨harg, ⟨⟩⟩ := of_fieldCheck_ok h
    have hzero : (readBits 2#4).extractLsb' 2 3 = w.extractLsb' 2 3 := harg.symm
    have hrest : (readBits 2#4).extractLsb' 2 26 = w.extractLsb' 2 26 :=
      extractLsb'_eq_append hzero (readBits_above_arg 2#4 hreserved hsel)
    exact ⟨rfl, operandWord_eq rfl rfl hrest hop.symm⟩
  case h_4 hsel =>
    cases h
    exact ⟨rfl, operandWord_eq rfl rfl (readBits_above_arg 3#4 hreserved hsel) hop.symm⟩
  case h_5 => cases h

/-- What a word decodes to is well-formed, and the word is its encoding (R111, R114). -/
theorem encode_of_decode (h : decode w = .ok i) : WellFormed i = true ∧ encode i = w := by
  unfold decode at h
  split at h
  case h_1 hop => exact decodeSetStructure_encode (BitVec.eq_of_toNat_eq hop) h
  case h_2 hop => exact decodeSetFraming_encode (BitVec.eq_of_toNat_eq hop) h
  case h_3 hop => exact decodeSetSilence_encode (BitVec.eq_of_toNat_eq hop) h
  case h_4 hop => exact decodeBind_encode (BitVec.eq_of_toNat_eq hop) h
  case h_5 hop => exact decodeNoOperand_encode (by rw [BitVec.eq_of_toNat_eq hop (y := 5#4)]; rfl) rfl h
  case h_6 hop => exact decodeNoOperand_encode (by rw [BitVec.eq_of_toNat_eq hop (y := 6#4)]; rfl) rfl h
  case h_7 hop => exact decodeRead_encode (BitVec.eq_of_toNat_eq hop) h
  case h_8 => cases h

/-- Settles O2, by the format the opcode selects. -/
theorem decodedWordIsItsEncoding : Obligations.DecodedWordIsItsEncoding := fun _ _ h => encode_of_decode h

end Sys2Proof
end

section
/-! The assembler of R119: what each mnemonic makes of its operands, the words of the lines with numbers, and that no
other line is assembled. -/

namespace Sys2Proof.Machine

variable {l : AsmLine} {i : Instr} {n : ℕ}

/-! ### Numbers in fields -/

theorem asmField_inRange {k : ℕ} (h : n < 2 ^ k) : asmField k n = some (BitVec.ofNat k n) := if_pos h

theorem asmField_outOfRange {k : ℕ} (h : 2 ^ k ≤ n) : asmField k n = none := if_neg (not_lt_of_ge h)

/-- A number put in the low field of a word whose low bits are zero is added to the word. -/
theorem or_ofNat_eq_ofNat_add {k : ℕ} {p : CommandWord} (hn : n < 2 ^ k) (hzero : p.extractLsb' 0 k = 0#k) :
    p ||| (BitVec.ofNat k n).setWidth 32 = BitVec.ofNat 32 (p.toNat + n) := by
  rw [← add_setWidth_eq_or _ hzero]
  apply BitVec.eq_of_toNat_eq
  simp [Nat.mod_eq_of_lt hn]

/-! ### The lines with numbers -/

theorem asmCommand_setStructure (a : AsmOperand) :
    asmCommand ⟨"SET_STRUCTURE", [a]⟩ = (asmStructure a).map .setStructure := rfl

theorem asmCommand_setSilence (n : ℕ) :
    asmCommand ⟨"SET_SILENCE", [.number n]⟩ = (asmField 8 n).map .setSilence := rfl

theorem asmCommand_bind (ts c : ℕ) :
    asmCommand ⟨"BIND", [.number ts, .number c]⟩ =
      (asmField 8 ts).bind fun t => (asmField 5 c).map (.bind t) := rfl

theorem asmCommand_readFrame (n : ℕ) :
    asmCommand ⟨"READ_FRAME", [.number n]⟩ = (asmField 2 n).map .readFrame := rfl

theorem asmCommand_readTsMode (n : ℕ) :
    asmCommand ⟨"READ_TSMODE", [.number n]⟩ = (asmField 5 n).map .readTsMode := rfl

theorem encode_bind_ofNat {ts c : ℕ} (hts : ts < 256) (hc : c < 32) :
    encode (.bind (BitVec.ofNat 8 ts) (BitVec.ofNat 5 c)) = BitVec.ofNat 32 (0x40000000 + ts * 0x10000 + c) := by
  have hword : ∀ x : BitVec 8, (opBits 4#4 ||| x.setWidth 32 <<< 16).toNat = 0x40000000 + x.toNat * 0x10000 := by
    decide
  obtain ⟨-, -, -, -, hlow⟩ := bindWord_fields (BitVec.ofNat 8 ts)
  refine (or_ofNat_eq_ofNat_add hc hlow).trans ?_
  rw [hword, BitVec.toNat_ofNat, Nat.mod_eq_of_lt hts]

theorem assemble_setStructure_number (hn : n ≤ 2) :
    assemble ⟨"SET_STRUCTURE", [.number n]⟩ = some (BitVec.ofNat 32 (0x10000000 + n)) := by
  rw [assemble, asmCommand_setStructure, asmStructure, if_pos hn]
  exact congrArg some (or_ofNat_eq_ofNat_add (p := 0x10000000#32) (by omega) rfl)

theorem assemble_setSilence (hn : n < 256) :
    assemble ⟨"SET_SILENCE", [.number n]⟩ = some (BitVec.ofNat 32 (0x30000000 + n)) := by
  rw [assemble, asmCommand_setSilence, asmField_inRange hn]
  exact congrArg some (or_ofNat_eq_ofNat_add (p := 0x30000000#32) hn rfl)

theorem assemble_bind {ts c : ℕ} (hts : ts < 256) (hc : c < 32) :
    assemble ⟨"BIND", [.number ts, .number c]⟩ = some (BitVec.ofNat 32 (0x40000000 + ts * 0x10000 + c)) := by
  rw [assemble, asmCommand_bind, asmField_inRange hts, asmField_inRange hc]
  exact congrArg some (encode_bind_ofNat hts hc)

theorem assemble_readFrame (hn : n < 4) :
    assemble ⟨"READ_FRAME", [.number n]⟩ = some (BitVec.ofNat 32 (0x72000000 + n)) := by
  rw [assemble, asmCommand_readFrame, asmField_inRange hn]
  exact congrArg some (or_ofNat_eq_ofNat_add (p := 0x72000000#32) hn rfl)

theorem assemble_readTsMode (hn : n < 32) :
    assemble ⟨"READ_TSMODE", [.number n]⟩ = some (BitVec.ofNat 32 (0x73000000 + n)) := by
  rw [assemble, asmCommand_readTsMode, asmField_inRange hn]
  exact congrArg some (or_ofNat_eq_ofNat_add (p := 0x73000000#32) hn rfl)

theorem assemble_bind_outOfRange {ts c : ℕ} (h : 256 ≤ ts ∨ 32 ≤ c) :
    assemble ⟨"BIND", [.number ts, .number c]⟩ = none := by
  rw [assemble, asmCommand_bind]
  obtain hts | hc := h
  · rw [asmField_outOfRange hts]; rfl
  · rw [asmField_outOfRange (k := 5) hc]; cases asmField 8 ts <;> rfl

/-! ### No other line -/

/-- The structure operands: a number, or one of the three names (R119). -/
theorem asmStructure_cases {a : AsmOperand} {x : BitVec 2} (h : asmStructure a = some x) :
    x ≠ 3#2 ∧ ((∃ n, a = .number n) ∨ a = .name "unstructured" ∨ a = .name "pcm31" ∨ a = .name "pcm30") := by
  cases a with
  | number n =>
    simp only [asmStructure] at h
    split at h
    · next hn => cases h; exact ⟨by interval_cases n <;> decide, .inl ⟨n, rfl⟩⟩
    · cases h
  | name y =>
    simp only [asmStructure] at h
    split at h
    · next hy => cases h; simp [hy]
    · split at h
      · next hy => cases h; simp [hy]
      · split at h
        · next hy => cases h; simp [hy]
        · cases h

theorem asmFraming_cases {a : AsmOperand} {m : FramingMode} (h : asmFraming a = some m) :
    a = .name "double" ∨ a = .name "multi" := by
  cases a with
  | number n => cases h
  | name y =>
    simp only [asmFraming] at h
    split at h
    · next hy => simp [hy]
    · split at h
      · next hy => simp [hy]
      · cases h

/-- A line of R119's table: one of those without a number, or a mnemonic with its numbers. -/
def IsTableLine (l : AsmLine) : Prop :=
  l ∈ asmRowsWithoutNumber.map Prod.fst ∨
    (∃ x ∈ ["SET_STRUCTURE", "SET_SILENCE", "READ_FRAME", "READ_TSMODE"], ∃ n, l = ⟨x, [.number n]⟩) ∨
      ∃ ts c, l = ⟨"BIND", [.number ts, .number c]⟩

theorem isTableLine_number {x : String} (hx : x ∈ ["SET_STRUCTURE", "SET_SILENCE", "READ_FRAME", "READ_TSMODE"])
    (n : ℕ) : IsTableLine ⟨x, [.number n]⟩ := .inr (.inl ⟨x, hx, n, rfl⟩)

/-- A line that names a command is one of the table's, and the command is well-formed: mnemonic by mnemonic. -/
theorem asmCommand_sound (h : asmCommand l = some i) : WellFormed i = true ∧ IsTableLine l := by
  obtain ⟨m, ops⟩ := l
  simp only [asmCommand] at h
  split at h
  · next hm =>
    subst hm
    split at h
    · obtain ⟨x, hx, rfl⟩ := Option.map_eq_some_iff.1 h
      obtain ⟨hlegal, ⟨n, rfl⟩ | rfl | rfl | rfl⟩ := asmStructure_cases hx
      · exact ⟨bne_iff_ne.2 hlegal, isTableLine_number (by decide) n⟩
      all_goals exact ⟨bne_iff_ne.2 hlegal, .inl (by decide)⟩
    · cases h
  split at h
  · next hm =>
    subst hm
    split at h
    · obtain ⟨x, hx, rfl⟩ := Option.map_eq_some_iff.1 h
      obtain rfl | rfl := asmFraming_cases hx <;> exact ⟨rfl, .inl (by decide)⟩
    · split at h
      · next hcrc4 =>
        subst hcrc4
        obtain ⟨x, hx, rfl⟩ := Option.map_eq_some_iff.1 h
        obtain rfl | rfl := asmFraming_cases hx <;> exact ⟨rfl, .inl (by decide)⟩
      · cases h
    · cases h
  split at h
  · next hm =>
    subst hm
    split at h
    · next n =>
      obtain ⟨x, -, rfl⟩ := Option.map_eq_some_iff.1 h
      exact ⟨rfl, isTableLine_number (by decide) n⟩
    · cases h
  split at h
  · next hm =>
    subst hm
    split at h
    · next ts c =>
      obtain ⟨t, -, h⟩ := Option.bind_eq_some_iff.1 h
      obtain ⟨x, -, rfl⟩ := Option.map_eq_some_iff.1 h
      exact ⟨rfl, .inr (.inr ⟨ts, c, rfl⟩)⟩
    · cases h
  iterate 4
    split at h
    · next hm =>
      subst hm
      split at h
      · next hops => subst hops; cases h; exact ⟨rfl, .inl (by decide)⟩
      · cases h
  iterate 2
    split at h
    · next hm =>
      subst hm
      split at h
      · next n =>
        obtain ⟨x, -, rfl⟩ := Option.map_eq_some_iff.1 h
        exact ⟨rfl, isTableLine_number (by decide) n⟩
      · cases h
  cases h

/-- Settles O7: the numbers go into their fields or are refused, the lines without a number are the table's own, and
the round trip of the encoding gives the command back. -/
theorem assembledLinesDecodeAndBadOperandsAreRefused : Obligations.AssembledLinesDecodeAndBadOperandsAreRefused := by
  refine ⟨by decide, fun _ => assemble_setStructure_number, fun _ => assemble_setSilence,
    fun _ _ => assemble_bind, fun _ => assemble_readFrame, fun _ => assemble_readTsMode, ?structureAbove, ?silenceAbove,
    fun _ _ => assemble_bind_outOfRange, ?frameAbove, ?tsModeAbove, ?tableLine, ?decodes⟩
  case structureAbove =>
    intro n hn
    rw [assemble, asmCommand_setStructure, asmStructure, if_neg (by omega)]
    rfl
  case silenceAbove =>
    intro n hn
    rw [assemble, asmCommand_setSilence, asmField_outOfRange hn]
    rfl
  case frameAbove =>
    intro n hn
    rw [assemble, asmCommand_readFrame, asmField_outOfRange hn]
    rfl
  case tsModeAbove =>
    intro n hn
    rw [assemble, asmCommand_readTsMode, asmField_outOfRange hn]
    rfl
  case tableLine =>
    intro l w h
    obtain ⟨i, hi, -⟩ := Option.map_eq_some_iff.1 h
    exact (asmCommand_sound hi).2
  case decodes =>
    intro l w h
    obtain ⟨i, hi, rfl⟩ := Option.map_eq_some_iff.1 h
    exact ⟨i, decode_encode (asmCommand_sound hi).1, hi⟩

/-- A word without a command is ILLEGAL for some reason. -/
theorem exists_error_of_toOption_none {w : CommandWord} (h : (decode w).toOption = none) :
    ∃ r, decode w = .error r := by
  cases hdec : decode w with
  | ok i => rw [hdec] at h; cases h
  | error r => exact ⟨r, rfl⟩

/-- Settles O6: the examples are the words of well-formed commands, which decode to them; the other words have no
command. -/
theorem encodingExamplesDecode : Obligations.EncodingExamplesDecode := by
  constructor
  · intro p hp
    have hword : WellFormed p.2 = true ∧ encode p.2 = p.1 := by
      revert p
      decide
    obtain ⟨hlegal, hencode⟩ := hword
    exact ⟨hencode ▸ decode_encode hlegal, hencode⟩
  · intro w hw
    refine exists_error_of_toOption_none ?_
    fin_cases hw <;> rfl

end Sys2Proof.Machine
end

section
/-! Every command as its own work and one response: the state its work leaves, and the status it answers with. From
this come the statements about errors, phases, configuration registers, bindings and ROMs. -/

namespace Sys2Proof.Machine

/-! ### What a command's work is -/

/-- The registers' part of fatal entry (R310): the phase and the cause. -/
def enterFailed (code : Status) (s : State) : State :=
  { s with regs := { s.regs with phase := .failed, failCause := statusCode code } }

/-- What command `i` makes of state `s` before it responds with `status`: nothing where it is refused by phase, and
else its own work. -/
inductive Work : Instr → State → Status → State → Prop
  | outOfPhase (i : Instr) (s : State) : Work i s .errPhase s
  | inFailed (i : Instr) (s : State) : Work i s .errFailed s
  | read {i : Instr} (s : State) (hread : isRead i = true) : Work i s .ok s
  | setStructure (struct : BitVec 2) {s : State} (hconfig : s.regs.phase = .config) :
      Work (.setStructure struct) s .ok { s with regs := { s.regs with structureMode := struct } }
  | setFraming (frm : FramingMode) (crc4 : Bool) {s : State} (hconfig : s.regs.phase = .config) :
      Work (.setFraming frm crc4) s .ok { s with regs := { s.regs with framing := frm, crc4Req := crc4 } }
  | setSilence (sil : Byte) {s : State} (hconfig : s.regs.phase = .config) :
      Work (.setSilence sil) s .ok { s with regs := { s.regs with silence := sil } }
  | bind (ts : BitVec 8) (chan : ChannelId) {s : State} (hconfig : s.regs.phase = .config)
      (hunbound : readBank s.regs.bindValid (tsIndex ts) = false) :
      Work (.bind ts chan) s .ok (setBinding (tsIndex ts) chan s)
  | bindRange (ts : BitVec 8) (chan : ChannelId) {s : State} (hconfig : s.regs.phase = .config) :
      Work (.bind ts chan) s .errRange (enterFailed .errRange s)
  | bindDup (ts : BitVec 8) (chan : ChannelId) {s : State} (hconfig : s.regs.phase = .config) :
      Work (.bind ts chan) s .errDup (enterFailed .errDup s)
  | init {s : State} (hconfig : s.regs.phase = .config) (hok : ∀ c ∈ boundChannels s.regs, openAnswer c s = .ok) :
      Work .init s .ok (initialised s)
  | initOpen {before after : List ChannelId} {c : ChannelId} {s : State} (hconfig : s.regs.phase = .config)
      (hbound : boundChannels s.regs = before ++ c :: after) (hok : ∀ d ∈ before, openAnswer d s = .ok) :
      Work .init s .errOpen (enterFailed .errOpen (closeAll before (requestOpen c (openAll before s))))
  | nextByte {s u : State} {b : Byte} (hrunning : s.regs.phase = .running)
      (hproduce : produce s.regs.cursor s.regs.frame s = .ok (b, u)) :
      Work .nextByte s .ok (advance s.regs.cursor s.regs.frame u)

variable {s t u : State} {i : Instr} {status : Status} {data : Byte}

/-- From `s`, command `i` leaves `t`: its work, then its one response. -/
def Answers (i : Instr) (s t : State) : Prop :=
  ∃ status data u, Work i s status u ∧ t = emit (.resp (respWord status data)) u

theorem Work.answers (hwork : Work i s status u) (h : respond status data u = .next t) : Answers i s t :=
  ⟨status, data, u, hwork, (respond_eq_next.1 h).symm⟩

/-- A phase-checked command answers if its own work does. -/
theorem inPhase_answers {p : Phase} {body : State → Result}
    (hbody : s.regs.phase = p → body s = .next t → Answers i s t) (h : inPhase p body s = .next t) :
    Answers i s t := by
  obtain ⟨-, rfl⟩ | ⟨-, -, rfl⟩ | ⟨hp, -, hwork⟩ := inPhase_eq_next h
  · exact (Work.inFailed i s).answers rfl
  · exact (Work.outOfPhase i s).answers rfl
  · exact hbody hp hwork

theorem execBind_answers {ts : BitVec 8} {chan : ChannelId} (h : exec (.bind ts chan) s = .next t) :
    Answers (.bind ts chan) s t := by
  rw [exec_bind] at h
  refine inPhase_answers (fun hconfig hwork => ?_) h
  split at hwork
  · split at hwork
    · exact (Work.bindDup ts chan hconfig).answers hwork
    · next hbound => exact (Work.bind ts chan hconfig (by simpa using hbound)).answers hwork
  · exact (Work.bindRange ts chan hconfig).answers hwork

theorem execInit_answers (h : exec .init s = .next t) : Answers .init s t := by
  by_cases hp : s.regs.phase = .config
  · obtain ⟨hok, he⟩ | ⟨before, c, after, hbound, hok, -, he⟩ := initWork_cases s hp
    · exact (Work.init hp hok).answers (he.symm.trans h)
    · exact (Work.initOpen hp hbound hok).answers (he.symm.trans h)
  · change execInit s = .next t at h
    exact inPhase_answers (fun hconfig _ => absurd hconfig hp) h

theorem execNextByte_answers (h : exec .nextByte s = .next t) : Answers .nextByte s t := by
  obtain ⟨-, rfl⟩ | ⟨-, rfl⟩ | ⟨hrunning, b, u, hproduce, rfl⟩ := execNextByte_cases h
  · exact (Work.inFailed _ s).answers rfl
  · exact (Work.outOfPhase _ s).answers rfl
  · exact (Work.nextByte hrunning hproduce).answers rfl

/-- What a command can do, once: the work of one of the constructors of `Work`, then its response. -/
theorem exec_answers (h : exec i s = .next t) : Answers i s t := by
  cases i with
  | setStructure struct =>
    rw [exec_setStructure] at h
    exact inPhase_answers (fun hconfig hwork => (Work.setStructure struct hconfig).answers hwork) h
  | setFraming frm crc4 =>
    rw [exec_setFraming] at h
    exact inPhase_answers (fun hconfig hwork => (Work.setFraming frm crc4 hconfig).answers hwork) h
  | setSilence sil =>
    rw [exec_setSilence] at h
    exact inPhase_answers (fun hconfig hwork => (Work.setSilence sil hconfig).answers hwork) h
  | bind => exact execBind_answers h
  | init => exact execInit_answers h
  | nextByte => exact execNextByte_answers h
  | readStatus | readCursor | readFrame | readTsMode => exact (Work.read s rfl).answers h

/-- A command word's step is the work of a command or, for an ILLEGAL word, the response alone (R111, R116). -/
theorem executeWord_answers {w : CommandWord} (h : executeWord w s = .next t) :
    (∃ i, decode w = .ok i ∧ Answers i s t) ∨ t = emit (.resp (respWord .errIllegal 0#8)) s :=
  (executeWord_cases h).imp_left fun ⟨i, hdec, hexec⟩ => ⟨i, hdec, exec_answers hexec⟩

/-! ### What work leaves: ROMs and inputs -/

@[simp] theorem openAll_roms (cs : List ChannelId) (s : State) : (openAll cs s).roms = s.roms := by
  induction cs generalizing s with
  | nil => rfl
  | cons c cs ih => exact ih (setChanOpen c true (requestOpen c s))

@[simp] theorem openAll_inputs (cs : List ChannelId) (s : State) :
    (openAll cs s).env.inputs = s.env.inputs := by
  induction cs generalizing s with
  | nil => rfl
  | cons c cs ih => exact ih (setChanOpen c true (requestOpen c s))

/-- No command writes a ROM (R75) or takes an input of the host beside its own word (R17). -/
theorem Work.keeps_roms_inputs (hwork : Work i s status u) :
    u.roms = s.roms ∧ u.env.inputs = s.env.inputs := by
  cases hwork with
  | init =>
    obtain ⟨hroms, henv⟩ := initialised_env s
    simp [hroms, henv]
  | initOpen => simp [enterFailed, closeAll_eq]
  | nextByte hrunning hproduce =>
    obtain ⟨hroms, hinputs, -⟩ := produce_regs _ _ _ hproduce
    exact ⟨hroms, hinputs⟩
  | _ => exact ⟨rfl, rfl⟩

theorem executeWord_keeps_roms_inputs {w : CommandWord} (h : executeWord w s = .next t) :
    t.roms = s.roms ∧ t.env.inputs = s.env.inputs := by
  obtain ⟨i, -, status, data, u, hwork, rfl⟩ | rfl := executeWord_answers h
  · exact hwork.keeps_roms_inputs
  · exact ⟨rfl, rfl⟩

/-- Settles O57: neither a command nor reset writes a ROM. -/
theorem romsNeverChange : Obligations.RomsNeverChange := by
  intro s t h
  obtain ⟨-, rfl⟩ | ⟨rest, -, rfl⟩ | ⟨w, rest, -, hword⟩ := step_cases h
  · rfl
  · simp [applyReset_eq]
  · exact (executeWord_keeps_roms_inputs hword).1

/-! ### What work leaves: the registers -/

/-- A command that answers ERR_PHASE or ERR_FAILED did no work, and no command answers ERR_ILLEGAL. -/
theorem Work.eq_of_nonfatal (hwork : Work i s status u)
    (hstatus : status = .errIllegal ∨ status = .errPhase ∨ status = .errFailed) : u = s := by
  cases hwork with
  | outOfPhase | inFailed => rfl
  | _ => simp at hstatus

/-- Settles O15: the last response is the command's own, so its status is that of the work, which is none. -/
theorem nonFatalErrorsChangeNothing : Obligations.NonFatalErrorsChangeNothing := by
  intro w s t status data hstatus h hlast
  obtain ⟨i, -, status', data', u, hwork, rfl⟩ | rfl := executeWord_answers h
  · rw [lastEvent_emit, Option.some.injEq, Event.resp.injEq] at hlast
    obtain ⟨rfl, rfl⟩ := respWord_injective hlast
    rw [hwork.eq_of_nonfatal hstatus]
  · rw [lastEvent_emit, Option.some.injEq] at hlast
    rw [hlast]

theorem produce_phase {ts : Timeslot} {f : FrameCount} {b : Byte} (hproduce : produce ts f s = .ok (b, u)) :
    u.regs.phase = s.regs.phase := by
  obtain ⟨-, -, hregs | ⟨-, -, hregs⟩⟩ := produce_regs _ _ _ hproduce
  · rw [hregs]
  · rw [hregs]

/-- What NEXT_BYTE's work leaves in the registers: the counters advanced, and the cursor's timeslot degraded or not
(R178, R255). -/
theorem nextByte_regs {b : Byte} (hproduce : produce s.regs.cursor s.regs.frame s = .ok (b, u)) :
    ∃ mode chanOpen,
      (advance s.regs.cursor s.regs.frame u).regs =
          { s.regs with
            mode := mode
            chanOpen := chanOpen
            cursor := s.regs.cursor + 1#5
            frame := if s.regs.cursor = 31#5 then s.regs.frame + 1#32 else s.regs.frame } := by
  obtain ⟨-, -, hregs | ⟨-, -, hregs⟩⟩ := produce_regs _ _ _ hproduce
  · exact ⟨s.regs.mode, s.regs.chanOpen, by rw [advance_regs, hregs]⟩
  · exact ⟨_, _, by rw [advance_regs, hregs]⟩

/-- In RUNNING only NEXT_BYTE does any work (R303). -/
theorem Work.in_running (hwork : Work i s status u) (hrunning : s.regs.phase = .running) :
    u = s ∨ i = .nextByte ∧ ∃ b v, produce s.regs.cursor s.regs.frame s = .ok (b, v) ∧
      u = advance s.regs.cursor s.regs.frame v := by
  cases hwork with
  | outOfPhase | inFailed | read => exact .inl rfl
  | nextByte _ hproduce => exact .inr ⟨rfl, _, _, hproduce, rfl⟩
  | setStructure _ hconfig | setFraming _ _ hconfig | setSilence _ hconfig | bind _ _ hconfig
  | bindRange _ _ hconfig | bindDup _ _ hconfig | init hconfig | initOpen hconfig =>
    exact absurd (hconfig.symm.trans hrunning) (by decide)

/-- In RUNNING no command writes a configuration register or a binding (R46 (h)). -/
theorem Work.keeps_configuration (hwork : Work i s status u) (hrunning : s.regs.phase = .running) :
    u.regs.structureMode = s.regs.structureMode ∧ u.regs.framing = s.regs.framing ∧
      u.regs.crc4Req = s.regs.crc4Req ∧ u.regs.silence = s.regs.silence ∧
      u.regs.bindValid = s.regs.bindValid ∧ u.regs.bindChan = s.regs.bindChan := by
  obtain rfl | ⟨-, b, v, hproduce, rfl⟩ := hwork.in_running hrunning
  · exact ⟨rfl, rfl, rfl, rfl, rfl, rfl⟩
  · obtain ⟨mode, chanOpen, hregs⟩ := nextByte_regs hproduce
    rw [hregs]
    exact ⟨rfl, rfl, rfl, rfl, rfl, rfl⟩

/-- Settles O54: the step is idle or a command, and no command writes those registers in RUNNING. -/
theorem configurationIsFrozenInRunning : Obligations.ConfigurationIsFrozenInRunning := by
  intro s t hrunning hnoReset h
  obtain ⟨-, rfl⟩ | ⟨rest, hin, -⟩ | ⟨w, rest, -, hword⟩ := step_cases h
  · simp
  · exact absurd (by simp [resets, hin]) hnoReset
  · obtain ⟨i, -, status, data, u, hwork, rfl⟩ | rfl := executeWord_answers hword
    · exact hwork.keeps_configuration hrunning
    · simp

/-- The phase changes that commands make (R40, R311). -/
theorem Work.phase_cases (hwork : Work i s status u) :
    u.regs.phase = s.regs.phase ∨
      (s.regs.phase = .config ∧ u.regs.phase = .running ∧ i = .init) ∨
      (s.regs.phase = .config ∧ u.regs.phase = .failed ∧ (i = .init ∨ ∃ ts chan, i = .bind ts chan)) := by
  cases hwork with
  | outOfPhase | inFailed | read | setStructure | setFraming | setSilence | bind => exact .inl rfl
  | bindRange ts chan hconfig | bindDup ts chan hconfig => exact .inr (.inr ⟨hconfig, rfl, .inr ⟨ts, chan, rfl⟩⟩)
  | init hconfig => exact .inr (.inl ⟨hconfig, rfl, rfl⟩)
  | initOpen hconfig => exact .inr (.inr ⟨hconfig, rfl, .inl rfl⟩)
  | nextByte _ hproduce =>
    obtain ⟨mode, chanOpen, hregs⟩ := nextByte_regs hproduce
    exact .inl (by rw [hregs])

/-- Settles O55, by the cases of a step and the phase changes of a command. -/
theorem phaseTransitionsAreTheSpecs : Obligations.PhaseTransitionsAreTheSpecs := by
  intro s t h
  obtain ⟨-, rfl⟩ | ⟨rest, hin, rfl⟩ | ⟨w, rest, hin, hword⟩ := step_cases h
  · exact .inl rfl
  · exact .inr (.inr (.inr ⟨rfl, by simp [resets, hin]⟩))
  · obtain ⟨i, hdec, status, data, u, hwork, rfl⟩ | rfl := executeWord_answers hword
    · have hissues : issues s i := ⟨w, rest, hin, hdec⟩
      obtain hsame | ⟨hconfig, hrunning, rfl⟩ | ⟨hconfig, hfailed, rfl | ⟨ts, chan, rfl⟩⟩ := hwork.phase_cases
      · exact .inl hsame
      · exact .inr (.inl ⟨hconfig, hrunning, hissues⟩)
      · exact .inr (.inr (.inl ⟨hconfig, hfailed, .inl hissues⟩))
      · exact .inr (.inr (.inl ⟨hconfig, hfailed, .inr ⟨ts, chan, hissues⟩⟩))
    · exact .inl rfl

/-- A bound timeslot keeps its binding: only BIND writes one, and it writes that of an unbound timeslot (R38, R218). -/
theorem Work.keeps_binding {ts : Timeslot} (hwork : Work i s status u)
    (hbound : readBank s.regs.bindValid ts = true) :
    readBank u.regs.bindValid ts = true ∧ readBank u.regs.bindChan ts = readBank s.regs.bindChan ts := by
  cases hwork with
  | bind ts' chan hconfig hunbound =>
    have hne : tsIndex ts' ≠ ts := by
      rintro rfl
      rw [hunbound] at hbound
      cases hbound
    simp [readBank_writeBank_ne _ _ hne, hbound]
  | init => simp [initialised_regs, hbound]
  | initOpen => simp [enterFailed, closeAll_eq, hbound]
  | nextByte _ hproduce =>
    obtain ⟨mode, chanOpen, hregs⟩ := nextByte_regs hproduce
    rw [hregs]
    exact ⟨hbound, rfl⟩
  | _ => exact ⟨hbound, rfl⟩

/-- Settles O60: the step is idle or a command, and a command keeps the bindings there are. -/
theorem bindingsStayUntilReset : Obligations.BindingsStayUntilReset := by
  intro s t ts hbound hnoReset h
  obtain ⟨-, rfl⟩ | ⟨rest, hin, -⟩ | ⟨w, rest, -, hword⟩ := step_cases h
  · exact ⟨hbound, rfl⟩
  · exact absurd (by simp [resets, hin]) hnoReset
  · obtain ⟨i, -, status, data, u, hwork, rfl⟩ | rfl := executeWord_answers hword
    · exact hwork.keeps_binding hbound
    · exact ⟨hbound, rfl⟩

end Sys2Proof.Machine
end

section
/-! The step as a whole: what stops it, and the invariant of R46 that every step keeps. -/

namespace Sys2Proof.Machine

variable {s t u : State} {i : Instr} {status : Status}

/-! ### What stops a step -/

theorem inPhase_ne_refused {p : Phase} {body : State → Result} {r : Refusal} (hbody : body s ≠ .refused r) :
    inPhase p body s ≠ .refused r := by
  obtain ⟨-, he⟩ | ⟨-, -, he⟩ | ⟨-, -, he⟩ := inPhase_cases (p := p) (body := body) s
  · rw [he]; nofun
  · rw [he]; nofun
  · rwa [he]

theorem ne_refused_of_completes {o : Result} {r : Refusal} (h : ∃ t, o = .next t) : o ≠ .refused r := by
  obtain ⟨t, rfl⟩ := h
  nofun

/-- Every command of the table has a meaning: none is refused. -/
theorem exec_ne_refused (i : Instr) (s : State) (r : Refusal) : exec i s ≠ .refused r := by
  cases i with
  | setStructure struct =>
    rw [exec_setStructure]
    exact ne_refused_of_completes (inPhase_completes fun _ => ⟨_, rfl⟩)
  | setFraming frm crc4 =>
    rw [exec_setFraming]
    exact ne_refused_of_completes (inPhase_completes fun _ => ⟨_, rfl⟩)
  | setSilence sil =>
    rw [exec_setSilence]
    exact ne_refused_of_completes (inPhase_completes fun _ => ⟨_, rfl⟩)
  | bind ts chan => exact ne_refused_of_completes (execBind_completes ts chan s)
  | init => exact ne_refused_of_completes (execInit_completes s)
  | nextByte =>
    change execNextByte s ≠ _
    unfold execNextByte
    refine inPhase_ne_refused ?_
    split <;> nofun
  | readStatus | readCursor | readFrame | readTsMode => nofun

theorem step_of_illegalAlignRom (hrom : ¬ alignRomLegal s.roms.align = true) :
    step s = .refused .alignRomParameter := if_neg hrom

theorem step_ne_refused (hrom : alignRomLegal s.roms.align = true) (r : Refusal) : step s ≠ .refused r := by
  cases hin : s.env.inputs with
  | nil => simp [step, hrom, hin]
  | cons input rest =>
    cases input with
    | reset => rw [step_reset hrom hin]; nofun
    | command w =>
      rw [step_command hrom hin]
      cases hdec : decode w with
      | ok i => rw [executeWord_of_decode_ok hdec]; exact exec_ne_refused i _ r
      | error e => rw [executeWord_of_decode_error hdec]; nofun

/-- Settles O11: a step is refused by the check of ALIGN_ROM and by nothing else. -/
theorem illegalAlignRomIsRefused : Obligations.IllegalAlignRomIsRefused := by
  intro s
  rw [← not_forall_not]
  simp only [not_not, ← alignRomLegal_iff]
  exact ⟨fun hstep hrom => step_ne_refused hrom _ hstep, step_of_illegalAlignRom⟩

/-- With no input to come a step answers the state itself (R325). -/
theorem step_idle (hrom : alignRomLegal s.roms.align = true) (hin : s.env.inputs = []) : step s = .next s := by
  simp [step, hrom, hin]

/-- Settles O10: the idle step. -/
theorem idleEngineKeepsItsState : Obligations.IdleEngineKeepsItsState := fun _ hrom hin => step_idle hrom hin

/-- Settles O8: the step is the execution of the word, which is that of the command it decodes to. -/
theorem stepRunsTheDecodedCommand : Obligations.StepRunsTheDecodedCommand := by
  intro s w rest i hrom hin hdec
  rw [step_command hrom hin, executeWord_of_decode_ok hdec]
  simp [acceptCommand, emit, dropInput, hin]

/-- Settles O53: the invariant holds of a legal ALIGN_ROM, and it lets every command word complete. -/
theorem invariantStatesNeverStop : Obligations.InvariantStatesNeverStop := by
  intro s hinv
  have hrom := hinv.alignLegal
  cases hin : s.env.inputs with
  | nil => exact ⟨s, step_idle hrom hin⟩
  | cons input rest =>
    cases input with
    | reset => exact ⟨_, step_reset hrom hin⟩
    | command w =>
      rw [step_command hrom hin]
      exact executeWord_completes w (hinv.of_same_engine rfl rfl)

/-! ### The invariant at rest -/

/-- No timeslot has a mode, no channel is open, and the counters are 0: what CONFIG and FAILED have in common. -/
structure AtRest (r : Regs) : Prop where
  modes : ∀ ts, readBank r.mode ts = .unbound
  closed : ∀ c, readBank r.chanOpen c = false
  cursor : r.cursor = 0#5
  frame : r.frame = 0#32

/-- The phase and the cause of an engine that is not running, as they go together (R46 (f)). -/
def RestingPhase (r : Regs) : Prop :=
  (r.phase = .config ∧ r.failCause = 0#3) ∨
    (r.phase = .failed ∧ (r.failCause = 3#3 ∨ r.failCause = 4#3 ∨ r.failCause = 5#3))

/-- At rest the clauses of the invariant about modes and open channels speak of nothing. -/
theorem Inv.of_atRest (hrest : AtRest s.regs) (hphase : RestingPhase s.regs)
    (hstructure : s.regs.structureMode ≠ 3#2) (hrom : alignRomLegal s.roms.align = true) : Inv s where
  configClean _ := ⟨hrest.modes, hrest.cursor, hrest.frame, hrest.closed⟩
  runningAssigned hrunning := by obtain ⟨h, -⟩ | ⟨h, -⟩ := hphase <;> cases h.symm.trans hrunning
  syncOnlyFirst ts hmode := by cases (hrest.modes ts).symm.trans hmode
  extBound ts hmode := by cases (hrest.modes ts).symm.trans hmode
  openServes c hopen := by cases (hrest.closed c).symm.trans hopen
  failedClean hfailed := by
    obtain ⟨h, -⟩ | ⟨-, hcause⟩ := hphase
    · cases h.symm.trans hfailed
    · exact ⟨hrest.modes, hrest.closed, hcause⟩
  causeOnlyFailed hnotFailed := by
    obtain ⟨-, hcause⟩ | ⟨h, -⟩ := hphase
    · exact hcause
    · exact absurd h hnotFailed
  structureLegal := hstructure
  failedCounters _ := ⟨hrest.cursor, hrest.frame⟩
  alignLegal := hrom

theorem Inv.atRest_of_config (hinv : Inv s) (hconfig : s.regs.phase = .config) :
    AtRest s.regs ∧ s.regs.failCause = 0#3 := by
  obtain ⟨hmodes, hcursor, hframe, hclosed⟩ := hinv.configClean hconfig
  exact ⟨⟨hmodes, hclosed, hcursor, hframe⟩, hinv.causeOnlyFailed (by simp [hconfig])⟩

theorem atRest_reset : AtRest Regs.reset := ⟨fun _ => readBank_replicate _ _, reset_chanOpen, rfl, rfl⟩

theorem Inv.of_reset (hregs : s.regs = Regs.reset) (hrom : alignRomLegal s.roms.align = true) : Inv s := by
  apply Inv.of_atRest
  · exact hregs ▸ atRest_reset
  · exact .inl ⟨by rw [hregs]; rfl, by rw [hregs]; rfl⟩
  · rw [hregs]; decide
  · exact hrom

/-- Settles O51: the registers are at their reset values, and the default ALIGN_ROM is legal. -/
theorem invariantHoldsAtReset : Obligations.InvariantHoldsAtReset := .of_reset rfl (by decide)

/-- A command that leaves CONFIG's engine at rest, in CONFIG or with a fatal cause, keeps the invariant. -/
theorem Inv.of_config (hinv : Inv s) (hconfig : s.regs.phase = .config) (hrest : AtRest s.regs → AtRest u.regs)
    (hphase : s.regs.failCause = 0#3 → RestingPhase u.regs) (hstructure : u.regs.structureMode ≠ 3#2)
    (hroms : u.roms = s.roms) : Inv u := by
  obtain ⟨hrest', hcause⟩ := hinv.atRest_of_config hconfig
  exact .of_atRest (hrest hrest') (hphase hcause) hstructure (hroms ▸ hinv.alignLegal)

/-! ### The invariant in RUNNING -/

theorem assignedMode_ne_unbound (r : Regs) (ts : Timeslot) : assignedMode r ts ≠ .unbound := by
  unfold assignedMode
  split
  · nofun
  · split <;> nofun

theorem assignedMode_eq_ext_iff {r : Regs} {ts : Timeslot} :
    assignedMode r ts = .ext ↔ readBank r.bindValid ts = true := by
  unfold assignedMode
  split
  · next hvalid => simp [hvalid]
  · next hvalid => split <;> simp [hvalid]

theorem assignedMode_eq_sync {r : Regs} {ts : Timeslot} (h : assignedMode r ts = .sync) :
    ts = 0#5 ∧ r.structureMode ≠ 0#2 := by
  unfold assignedMode at h
  split at h
  · cases h
  · split at h
    · next hfirst => exact hfirst
    · cases h

/-- INIT's success: the modes are those the bindings ask for, and the open channels are the bound ones. -/
theorem Inv.of_initialised (hinv : Inv s) (hconfig : s.regs.phase = .config) : Inv (initialised s) := by
  have hmode := initialised_mode s
  have hregs := initialised_regs s
  obtain ⟨-, -, -, hclosed⟩ := hinv.configClean hconfig
  constructor
  case configClean => nofun
  case runningAssigned => exact fun _ ts => hmode ts ▸ assignedMode_ne_unbound s.regs ts
  case syncOnlyFirst =>
    intro ts hsync
    rw [hmode] at hsync
    rw [hregs]
    exact assignedMode_eq_sync hsync
  case extBound =>
    intro ts hext
    rw [hmode] at hext
    rw [hregs]
    exact assignedMode_eq_ext_iff.1 hext
  case openServes =>
    intro c hopen
    obtain hbound | hwas := (initialised_chanOpen s c).1 hopen
    · obtain ⟨ts, hvalid, hchan⟩ := mem_boundChannels.1 hbound
      refine ⟨rfl, ts, (hmode ts).trans (assignedMode_eq_ext_iff.2 hvalid), ?_⟩
      rw [hregs]
      exact hchan
    · cases (hclosed c).symm.trans hwas
  case failedClean => nofun
  case causeOnlyFailed =>
    rw [hregs]
    exact fun _ => hinv.causeOnlyFailed (by simp [hconfig])
  case structureLegal =>
    rw [hregs]
    exact hinv.structureLegal
  case failedCounters => nofun
  case alignLegal => simpa [initialised_env] using hinv.alignLegal

/-- The degrade takes a timeslot out of EXT and closes its channel, so a channel still open is served as before. -/
theorem Inv.of_produce {ts : Timeslot} {f : FrameCount} {b : Byte} (hinv : Inv s) (hrunning : s.regs.phase = .running)
    (hproduce : produce ts f s = .ok (b, u)) : Inv u := by
  obtain ⟨hroms, -, hregs | ⟨hext, -, hregs⟩⟩ := produce_regs _ _ _ hproduce
  · exact hinv.of_same_engine hregs hroms
  have hmode (x : Timeslot) : readBank u.regs.mode x = if ts = x then .silence else readBank s.regs.mode x := by
    rw [hregs, readBank_writeBank]
  have hkept {x : Timeslot} {m : Mode} (hm : m ≠ .silence) (hx : readBank u.regs.mode x = m) :
      readBank s.regs.mode x = m := by
    rw [hmode] at hx
    split at hx
    · exact absurd hx.symm hm
    · exact hx
  constructor
  case configClean => simp [hregs, hrunning]
  case runningAssigned => exact fun _ x hx => hinv.runningAssigned hrunning x (hkept nofun hx)
  case syncOnlyFirst =>
    intro x hx
    rw [hregs]
    exact hinv.syncOnlyFirst x (hkept nofun hx)
  case extBound =>
    intro x hx
    rw [hregs]
    exact hinv.extBound x (hkept nofun hx)
  case openServes =>
    intro c hopen
    rw [hregs, readBank_writeBank] at hopen
    split at hopen
    · cases hopen
    · next hother =>
      obtain ⟨-, x, hx, hchan⟩ := hinv.openServes c hopen
      have hne : ts ≠ x := fun h => hother (h ▸ hchan)
      refine ⟨by simpa [hregs] using hrunning, x, (hmode x).trans ((if_neg hne).trans hx), ?_⟩
      rw [hregs]
      exact hchan
  case failedClean => simp [hregs, hrunning]
  case causeOnlyFailed => simpa [hregs] using hinv.causeOnlyFailed
  case structureLegal => simpa [hregs] using hinv.structureLegal
  case failedCounters => simp [hregs, hrunning]
  case alignLegal => exact hroms ▸ hinv.alignLegal

/-- In RUNNING the invariant says nothing of the counters. -/
theorem Inv.advance {ts : Timeslot} {f : FrameCount} (hinv : Inv s) (hrunning : s.regs.phase = .running) :
    Inv (advance ts f s) :=
  { hinv with
    configClean := fun hconfig => by cases hconfig.symm.trans hrunning
    failedCounters := fun hfailed => by cases hfailed.symm.trans hrunning }

/-! ### The invariant step by step -/

/-- A well-formed command keeps the invariant. -/
theorem Work.keeps_inv (hwork : Work i s status u) (hlegal : WellFormed i = true) (hinv : Inv s) : Inv u := by
  have hroms := hwork.keeps_roms_inputs.1
  cases hwork with
  | outOfPhase | inFailed | read => exact hinv
  | setStructure struct hconfig =>
    exact hinv.of_config hconfig (fun h => { h with }) (fun hcause => .inl ⟨hconfig, hcause⟩) (bne_iff_ne.1 hlegal) rfl
  | setFraming _ _ hconfig | setSilence _ hconfig | bind _ _ hconfig =>
    exact hinv.of_config hconfig (fun h => { h with }) (fun hcause => .inl ⟨hconfig, hcause⟩) hinv.structureLegal rfl
  | bindRange _ _ hconfig =>
    exact hinv.of_config hconfig (fun h => { h with }) (fun _ => .inr ⟨rfl, .inl rfl⟩) hinv.structureLegal rfl
  | bindDup _ _ hconfig =>
    exact hinv.of_config hconfig (fun h => { h with }) (fun _ => .inr ⟨rfl, .inr (.inl rfl)⟩) hinv.structureLegal rfl
  | init hconfig => exact hinv.of_initialised hconfig
  | @initOpen before after c _ hconfig =>
    obtain ⟨hrest, -⟩ := hinv.atRest_of_config hconfig
    have hregs : (enterFailed .errOpen (closeAll before (requestOpen c (openAll before s)))).regs =
        { s.regs with phase := .failed, failCause := 5#3 } := by
      simp [enterFailed, closeAll_eq, closes_undo_opens hrest.closed, statusCode]
    refine hinv.of_config hconfig (fun h => ?_) (fun _ => ?_) ?_ hroms
    · rw [hregs]
      exact { h with }
    · exact .inr ⟨rfl, .inr (.inr rfl)⟩
    · rw [hregs]
      exact hinv.structureLegal
  | nextByte hrunning hproduce =>
    exact (hinv.of_produce hrunning hproduce).advance ((produce_phase hproduce).trans hrunning)

/-- Settles O52: reset gives the reset registers, and a command that decodes is well-formed, so its work keeps the
invariant; accepting the word and responding touch the environment alone. -/
theorem stepKeepsTheInvariant : Obligations.StepKeepsTheInvariant := by
  intro s t hinv h
  obtain ⟨-, rfl⟩ | ⟨rest, -, rfl⟩ | ⟨w, rest, -, hword⟩ := step_cases h
  · exact hinv
  · exact .of_reset rfl (by simpa [applyReset_eq] using hinv.alignLegal)
  · have haccept : Inv (acceptCommand w (dropInput s)) := hinv.of_same_engine rfl rfl
    obtain ⟨i, hdec, status, data, u, hwork, rfl⟩ | rfl := executeWord_answers hword
    · obtain ⟨hlegal, -⟩ := encode_of_decode hdec
      exact (hwork.keeps_inv hlegal haccept).of_same_engine rfl rfl
    · exact haccept.of_same_engine rfl rfl

end Sys2Proof.Machine
end

section
/-! The octets of timeslot 0: they depend on the frame counter through its remainder by 16, and in double-frame mode
by 2 (R150 to R155). -/

namespace Sys2Proof.Machine

/-- Frames with the same remainder by 2 have the same sync word (R141). -/
theorem syncWord_congr (roms : Roms) {f g : FrameCount} (h : f.toNat % 2 = g.toNat % 2) :
    syncWord roms f = syncWord roms g := by
  rw [syncWord_eq_readBank_mod, syncWord_eq_readBank_mod, h]

/-- Frames with the same remainder by 16 have the same octet, in both modes (R150). -/
theorem framing_congr (roms : Roms) (m : FramingMode) {f g : FrameCount} (h : f.toNat % 16 = g.toNat % 16) :
    framing roms f m = framing roms g m := by
  have hsync : syncWord roms f = syncWord roms g := syncWord_congr roms (by omega)
  cases m with
  | doubleFrame => exact hsync
  | multiframe => rw [framing_multiframe, framing_multiframe, hsync, alignWord_eq_readBank_mod, h,
      ← alignWord_eq_readBank_mod]

/-- Settles O45: adding the period to the counter keeps the remainder, as both periods divide 2^32. -/
theorem framingIsPeriodicAcrossTheWrap : Obligations.FramingIsPeriodicAcrossTheWrap := by
  intro roms f m
  refine ⟨framing_congr roms m ?_, syncWord_congr roms ?_, framing_congr roms m (by decide),
    framing_congr roms m (by decide)⟩
  · rw [BitVec.toNat_add, BitVec.toNat_ofNat]
    omega
  · rw [BitVec.toNat_add, BitVec.toNat_ofNat]
    omega

/-- The default ROMs at each remainder of the frame counter by 16 (R142, R145). -/
theorem default_rom_entries : ∀ r < 16,
    readBank State.reset.roms.sync (BitVec.ofNat 1 (r % 2)) = (if r % 2 = 0 then 0x1B#8 else 0x5F#8) ∧
      readBank State.reset.roms.align (BitVec.ofNat 4 r) = if r = 5 ∨ r = 9 ∨ r = 11 then 0x80#8 else 0x00#8 := by
  decide

/-- Settles O43: the ROM entries at the counter's remainder by 16; frames 5, 9 and 11 are odd. -/
theorem defaultFramingOctets : Obligations.DefaultFramingOctets := by
  intro f
  obtain ⟨hsync, halign⟩ := default_rom_entries (f.toNat % 16) (by omega)
  rw [show f.toNat % 16 % 2 = f.toNat % 2 by omega] at hsync
  rw [framing_multiframe, framing_doubleFrame, syncWord_eq_readBank_mod, alignWord_eq_readBank_mod, hsync, halign]
  refine ⟨rfl, ?_⟩
  split
  · next heven => rw [if_neg (by omega)]; rfl
  · split <;> rfl

/-- An octet with bit 7 set, ORed with one whose low 7 bits are zero, is itself. -/
theorem or_eq_self_of_bit_seven {x y : Byte} (hx : x.getLsbD 7 = true) (hy : y &&& 0x7F#8 = 0#8) : x ||| y = x := by
  ext i hi
  by_cases hseven : i = 7
  · subst hseven
    have hbit : x[7] = true := by simpa using hx
    simp [hbit]
  · have hmask : ∀ j < 7, (0x7F#8).getLsbD j = true := by decide
    have hbit : (y &&& 0x7F#8).getLsbD i = (0#8).getLsbD i := by rw [hy]
    rw [BitVec.getLsbD_and, hmask i (by omega), Bool.and_true, BitVec.getLsbD_zero,
      BitVec.getLsbD_eq_getElem hi] at hbit
    simp [hbit]

/-- Settles O44: the alignment word is an entry of a legal ROM, so it has no bit below bit 7. -/
theorem syncWordBitSevenMasksTheAlignmentBit : Obligations.SyncWordBitSevenMasksTheAlignmentBit :=
  fun roms _ hlegal hseven => or_eq_self_of_bit_seven hseven ((alignRomLegal_iff roms.align).1 hlegal _)

end Sys2Proof.Machine
end

section
/-! INIT: which channels are open once it has succeeded (R243), and INIT with nothing bound (R248). -/

namespace Sys2Proof.Machine

variable {s : State}

/-- INIT in CONFIG that leaves RUNNING has opened every bound channel. -/
theorem execInit_running {u : State} (hconfig : s.regs.phase = .config) (h : exec .init s = .next u)
    (hrunning : u.regs.phase = .running) : u = emit (.resp (respWord .ok 0#8)) (initialised s) := by
  obtain ⟨-, he⟩ | ⟨before, c, after, -, -, -, he⟩ := initWork_cases s hconfig
  · cases he.symm.trans h
    rfl
  · cases he.symm.trans h
    cases hrunning

/-- Settles O26: from all channels closed, INIT's opens are exactly the bound channels. -/
theorem initLeavesExactlyTheBoundChannelsOpen : Obligations.InitLeavesExactlyTheBoundChannelsOpen := by
  intro s u hconfig hclosed h hrunning c
  rw [execInit_running hconfig h hrunning, emit_regs, initialised_chanOpen, mem_boundChannels]
  simp [hclosed c]

theorem boundChannels_eq_nil (hunbound : ∀ t, readBank s.regs.bindValid t = false) : boundChannels s.regs = [] := by
  rw [List.eq_nil_iff_forall_not_mem]
  intro c hc
  obtain ⟨t, hvalid, -⟩ := mem_boundChannels.1 hc
  cases (hunbound t).symm.trans hvalid

/-- Settles O28: there is no channel to ask, so INIT is the assignment of the modes and the start. -/
theorem initWithoutBindingsCannotFail : Obligations.InitWithoutBindingsCannotFail := by
  intro s hconfig hunbound
  have hnone := boundChannels_eq_nil hunbound
  refine ⟨(initialised s).regs.mode, ?_, fun t => ?_⟩
  · rw [execInit_opened hconfig (by simp [hnone])]
    congr 2
    simp [initialised, hnone, openAll, assignModes_eq, startRunning]
  · rw [initialised_mode, assignedMode, hunbound t]
    simp

end Sys2Proof.Machine
end

section
/-! BIND of an unbound timeslot (R215), the power-up state (R33), and NEXT_BYTE at SYNC, EXT and UNBOUND timeslots
(R173 to R178). -/

namespace Sys2Proof.Machine

variable {s : State} {c : ChannelId}

/-- Settles O13, bank by bank. -/
theorem powerUpStateHoldsTheResetValues : Obligations.PowerUpStateHoldsTheResetValues :=
  ⟨rfl, rfl, rfl, rfl, rfl, rfl, reset_bindings, rfl, rfl, reset_chanOpen, rfl, rfl, by decide⟩

theorem tsIndex_eq_iff {ts : BitVec 8} (hrange : ts.toNat < 32) {t : Timeslot} :
    tsIndex ts = t ↔ t.toNat = ts.toNat := by
  rw [← BitVec.toNat_inj, tsIndex, BitVec.toNat_setWidth, Nat.mod_eq_of_lt hrange, eq_comm]

/-- Settles O19: admitted, in range and unbound, BIND writes the two entries of its timeslot. -/
theorem bindBindsAnUnboundTimeslot : Obligations.BindBindsAnUnboundTimeslot := by
  intro ts chan s
  obtain ⟨-, hrunning, hfailed⟩ := exec_by_phase (exec_bind ts chan s)
  refine ⟨fun hconfig hrange hunbound => ?_, hrunning, hfailed⟩
  refine ⟨writeBank s.regs.bindValid (tsIndex ts) true, writeBank s.regs.bindChan (tsIndex ts) chan,
    (execBind_inRange hconfig hrange).trans (if_neg (by simp [tsIndex, hunbound])), fun t => ?_⟩
  simp only [readBank_writeBank, tsIndex_eq_iff hrange, and_self]

/-! ### The sources -/

theorem produce_sync {ts : Timeslot} (f : FrameCount) (hmode : readBank s.regs.mode ts = .sync) :
    produce ts f s = .ok (framing s.roms f s.regs.framing, s) := by simp [produce, hmode, syncOctet]

theorem produce_unbound {ts : Timeslot} (f : FrameCount) (hmode : readBank s.regs.mode ts = .unbound) :
    produce ts f s = .error .unboundTimeslot := by simp [produce, hmode]

/-- Settles O31: the sync source reads the two tables at the counter's remainders. -/
theorem nextByteOfASyncTimeslot : Obligations.NextByteOfASyncTimeslot := by
  intro s hrunning hmode
  obtain ⟨hdouble, hmulti⟩ := framingFunctionReadsTheTwoTables s.roms s.regs.frame
  rw [execNextByte_of_produce hrunning (produce_sync _ hmode), ← hmulti, ← hdouble]
  cases s.regs.framing <;> rfl

/-- Settles O32: the channel's octet, and the channel alone moves. -/
theorem nextByteOfAnExternalTimeslot : Obligations.NextByteOfAnExternalTimeslot := by
  rintro s c b hrunning hmode rfl hopen hanswer
  have hproduce := produce_ext s.regs.frame hmode
  rw [extOctet_data _ s hopen hanswer] at hproduce
  refine ⟨writeBank s.env.channels (readBank s.regs.bindChan s.regs.cursor)
    (afterRead (feed (readBank s.regs.bindChan s.regs.cursor) s)), ?_, fun d => ?_⟩
  · rw [execNextByte_of_produce hrunning hproduce]
    simp [emit, advance, requestRead, setFeed, hanswer]
  · simp only [readBank_writeBank, eq_comm, feed]

theorem diagReason_eq (reason : EndReason) : diagReason reason = if reason = .eof then .eof else .error := by
  cases reason <;> rfl

/-- Settles O33: the read, then the degrade of an open channel. -/
theorem nextByteDegradesAtTheChannelsEnd : Obligations.NextByteDegradesAtTheChannelsEnd := by
  rintro s c reason hrunning hmode rfl hopen hanswer
  have hproduce := produce_ext s.regs.frame hmode
  rw [extOctet_ended _ s hopen hanswer, degrade_eq, diagReason_eq] at hproduce
  refine ⟨writeBank s.regs.mode s.regs.cursor .silence,
    writeBank s.regs.chanOpen (readBank s.regs.bindChan s.regs.cursor) false,
    writeBank s.env.channels (readBank s.regs.bindChan s.regs.cursor)
      (afterRead (feed (readBank s.regs.bindChan s.regs.cursor) s)), ?_, fun t => ?_, fun d => ?_, fun d => ?_⟩
  · rw [execNextByte_of_produce hrunning hproduce]
    simp [emit, advance, hopen, hanswer]
  · simp only [readBank_writeBank, eq_comm]
  · simp only [readBank_writeBank, eq_comm]
  · simp only [readBank_writeBank, eq_comm, feed]

/-- Settles O35: the selector stops at an UNBOUND timeslot, and every other source gives an octet. -/
theorem nextByteFaultsExactlyAtAnUnboundTimeslot : Obligations.NextByteFaultsExactlyAtAnUnboundTimeslot := by
  intro s hrunning
  constructor
  · intro hfault
    by_contra hassigned
    obtain ⟨b, u, hproduce⟩ := produce_ok s.regs.cursor s.regs.frame s hassigned
    cases (execNextByte_of_produce hrunning hproduce).symm.trans hfault
  · intro hunbound
    change execNextByte s = _
    unfold execNextByte
    rw [inPhase_admitted hrunning (by decide), produce_unbound _ hunbound]

end Sys2Proof.Machine
end

section
/-! Runs of NEXT_BYTE in RUNNING with every timeslot assigned: the counters after any number of them (R47, R258), and
the octets of the timeslots that share a channel (R86). -/

namespace Sys2Proof.Machine

variable {s t : State} {c : ChannelId} {n : ℕ}

/-- RUNNING with a source for every timeslot: what NEXT_BYTE needs to give an octet (R46 (b)). -/
structure Scanning (s : State) : Prop where
  running : s.regs.phase = .running
  assigned : ∀ ts, readBank s.regs.mode ts ≠ .unbound

/-! ### One NEXT_BYTE -/

theorem produce_keeps_assigned {ts : Timeslot} {f : FrameCount} {b : Byte} {u : State}
    (hproduce : produce ts f s = .ok (b, u)) (h : Scanning s) : Scanning u := by
  refine ⟨(produce_phase hproduce).trans h.running, fun x => ?_⟩
  obtain ⟨-, -, hregs | ⟨-, -, hregs⟩⟩ := produce_regs _ _ _ hproduce
  · rw [hregs]
    exact h.assigned x
  · rw [hregs, readBank_writeBank]
    split
    · nofun
    · exact h.assigned x

/-- NEXT_BYTE of a scanning engine: it answers, scans on, and the counters advance (R255). -/
theorem Scanning.nextByte (h : Scanning s) :
    ∃ b u t, produce s.regs.cursor s.regs.frame s = .ok (b, u) ∧ exec .nextByte s = .next t ∧
      t = emit (.resp (respWord .ok b)) (advance s.regs.cursor s.regs.frame u) ∧ Scanning t ∧
      t.regs.cursor = s.regs.cursor + 1#5 ∧
      t.regs.frame = if s.regs.cursor = 31#5 then s.regs.frame + 1#32 else s.regs.frame := by
  obtain ⟨b, u, hproduce⟩ := produce_ok s.regs.cursor s.regs.frame s (h.assigned _)
  obtain ⟨hrunning, hassigned⟩ := produce_keeps_assigned hproduce h
  obtain ⟨mode, chanOpen, hregs⟩ := nextByte_regs hproduce
  refine ⟨b, u, _, hproduce, execNextByte_of_produce h.running hproduce, rfl, ⟨hrunning, hassigned⟩, rfl, ?_⟩
  rw [emit_regs, hregs]

/-! ### Many -/

theorem nextBytes_succ (h : exec .nextByte s = .next t) (n : ℕ) : nextBytes (n + 1) s = nextBytes n t := by
  simp [nextBytes, h]

theorem octets_succ (h : exec .nextByte s = .next t) (n : ℕ) :
    octets (n + 1) s = (s.regs.cursor, lastData t) :: octets n t := by
  simp [octets, h]

/-- The frame counter `n + 1` timeslots on, counted from the next timeslot. -/
theorem frame_after_succ (cursor : Timeslot) (frame : FrameCount) (n : ℕ) :
    (if cursor = 31#5 then frame + 1#32 else frame) + BitVec.ofNat 32 (((cursor + 1#5).toNat + n) / 32) =
      frame + BitVec.ofNat 32 ((cursor.toNat + (n + 1)) / 32) := by
  split
  · next hlast =>
    subst hlast
    have hwrap : ((31#5).toNat + (n + 1)) / 32 = 1 + ((31#5 + 1#5).toNat + n) / 32 := by
      simp only [BitVec.reduceAdd, BitVec.reduceToNat]
      omega
    rw [hwrap, BitVec.ofNat_add, BitVec.add_assoc]
  · next hlast =>
    have hne : cursor.toNat ≠ 31 := fun h => hlast (BitVec.eq_of_toNat_eq h)
    have hnext : (cursor + 1#5).toNat = cursor.toNat + 1 := by
      rw [BitVec.toNat_add, BitVec.toNat_ofNat]
      omega
    rw [hnext, show cursor.toNat + 1 + n = cursor.toNat + (n + 1) by omega]

theorem cursor_after_succ (cursor : Timeslot) (n : ℕ) :
    cursor + 1#5 + BitVec.ofNat 5 n = cursor + BitVec.ofNat 5 (n + 1) := by
  rw [Nat.add_comm n 1, BitVec.ofNat_add, BitVec.add_assoc]

/-- After `n` NEXT_BYTE commands of a scanning engine the two counters are `n` timeslots on, and the octets belonged
to the timeslots in between, in order. -/
theorem Scanning.nextBytes (h : Scanning s) (n : ℕ) :
    ∃ t, nextBytes n s = .next t ∧ t.regs.cursor = s.regs.cursor + BitVec.ofNat 5 n ∧
      t.regs.frame = s.regs.frame + BitVec.ofNat 32 ((s.regs.cursor.toNat + n) / 32) ∧
      (octets n s).map Prod.fst = (List.range n).map fun k => s.regs.cursor + BitVec.ofNat 5 k := by
  induction n generalizing s with
  | zero =>
    have hfirst : s.regs.cursor.toNat / 32 = 0 := Nat.div_eq_of_lt s.regs.cursor.isLt
    exact ⟨s, rfl, by simp, by simp [hfirst], rfl⟩
  | succ n ih =>
    obtain ⟨-, -, t, -, hexec, -, ht, hcursor, hframe⟩ := h.nextByte
    obtain ⟨v, hrun, hcursor', hframe', hoctets⟩ := ih ht
    refine ⟨v, (nextBytes_succ hexec n).trans hrun, ?_, ?_, ?_⟩
    · rw [hcursor', hcursor, cursor_after_succ]
    · rw [hframe', hframe, hcursor, frame_after_succ]
    · rw [octets_succ hexec, List.map_cons, hoctets, List.range_succ_eq_map, List.map_cons, List.map_map, hcursor]
      simp [Function.comp_def, cursor_after_succ]

/-- Settles O38: 32 timeslots on, the cursor is where it was and has wrapped exactly once. -/
theorem thirtyTwoNextBytesAdvanceOneFrame : Obligations.ThirtyTwoNextBytesAdvanceOneFrame := by
  intro s hrunning hassigned
  obtain ⟨t, hrun, hcursor, hframe, hoctets⟩ := Scanning.nextBytes ⟨hrunning, hassigned⟩ 32
  have hone : (s.regs.cursor.toNat + 32) / 32 = 1 := by
    have := s.regs.cursor.isLt
    omega
  refine ⟨t, hrun, by simpa using hcursor, by rwa [hone] at hframe, ?_⟩
  simpa using congrArg List.length hoctets

/-- Settles O39: the counters from 0. -/
theorem octetStreamScansTheTimeslotsInOrder : Obligations.OctetStreamScansTheTimeslotsInOrder := by
  intro n s hrunning hassigned hcursor hframe
  obtain ⟨t, hrun, hcursor', hframe', hoctets⟩ := Scanning.nextBytes ⟨hrunning, hassigned⟩ n
  have hmod (k : ℕ) : BitVec.ofNat 5 (k % 32) = BitVec.ofNat 5 k := BitVec.eq_of_toNat_eq (by simp)
  refine ⟨t, hrun, ?_, ?_, ?_⟩
  · rw [hcursor', hcursor, hmod, BitVec.zero_add]
  · simpa [hcursor, hframe] using hframe'
  · simpa [hcursor, hmod] using hoctets

/-! ### The octets of one channel -/

theorem lastData_respond (status : Status) (data : Byte) (s : State) :
    lastData (emit (.resp (respWord status data)) s) = data := by
  obtain ⟨-, hdata⟩ := respWord_fields status data
  simp only [lastData, lastEvent_emit, hdata]

theorem servedBy_iff {r : Regs} {ts : Timeslot} :
    servedBy r c ts = true ↔ readBank r.mode ts = .ext ∧ readBank r.bindChan ts = c := by
  simp [servedBy]

theorem readAnswer_of_reads {a : ReadAnswer} {as : List ReadAnswer} (h : (feed c s).reads = a :: as) :
    readAnswer c s = a := by
  simp [readAnswer, h]

/-- Only the external source changes anything (R171). -/
theorem produce_of_not_ext {ts : Timeslot} {f : FrameCount} {b : Byte} {u : State}
    (hproduce : produce ts f s = .ok (b, u)) (hmode : readBank s.regs.mode ts ≠ .ext) : u = s := by
  unfold produce at hproduce
  split at hproduce
  · cases hproduce; rfl
  · cases hproduce; rfl
  · next hext => exact absurd hext hmode
  · cases hproduce

theorem produce_keeps_bindChan {ts : Timeslot} {f : FrameCount} {b : Byte} {u : State}
    (hproduce : produce ts f s = .ok (b, u)) : u.regs.bindChan = s.regs.bindChan := by
  obtain ⟨-, -, hregs | ⟨-, -, hregs⟩⟩ := produce_regs _ _ _ hproduce
  · rw [hregs]
  · rw [hregs]

/-- A timeslot that `c` does not serve leaves `c` as it was, and the timeslots it serves. -/
theorem produce_of_not_served {ts : Timeslot} {f : FrameCount} {b : Byte} {u : State}
    (hproduce : produce ts f s = .ok (b, u)) (hother : ¬ servedBy s.regs c ts = true) :
    readBank u.regs.chanOpen c = readBank s.regs.chanOpen c ∧ feed c u = feed c s ∧
      servedBy u.regs c = servedBy s.regs c := by
  by_cases hext : readBank s.regs.mode ts = .ext
  · have hchan : readBank s.regs.bindChan ts ≠ c := fun h => hother (servedBy_iff.2 ⟨hext, h⟩)
    have htouches := touchesOnly_produce hproduce
    obtain ⟨hopen, hfeed⟩ := htouches.channels c hchan.symm
    refine ⟨hopen, hfeed, funext fun x => ?_⟩
    unfold servedBy
    rw [produce_keeps_bindChan hproduce]
    by_cases hx : x = ts
    · rw [hx, beq_false_of_ne hchan, Bool.and_false, Bool.and_false]
    · rw [htouches.modes x hx]
  · rw [produce_of_not_ext hproduce hext]
    exact ⟨rfl, rfl, rfl⟩

/-- A timeslot that `c` serves, while `c` answers octets, gives the next of them. -/
theorem produce_of_served {ts : Timeslot} {b : Byte} {as : List ReadAnswer} (f : FrameCount)
    (hserved : servedBy s.regs c ts = true) (hopen : readBank s.regs.chanOpen c = true)
    (hreads : (feed c s).reads = .data b :: as) : produce ts f s = .ok (b, requestRead c s) := by
  obtain ⟨hmode, rfl⟩ := servedBy_iff.1 hserved
  rw [produce_ext f hmode, extOctet_data ts s hopen (readAnswer_of_reads hreads)]

/-- The octets, among those of `n` NEXT_BYTE commands, of the timeslots that `c` serves under the registers `r`. -/
def octetsServed (r : Regs) (c : ChannelId) (n : ℕ) (s : State) : List Byte :=
  ((octets n s).filter fun p => servedBy r c p.1).map Prod.snd

/-- One NEXT_BYTE while open channel `c` will answer `b` next: a timeslot it serves gives `b` and consumes it, any
other leaves the channel alone. -/
theorem Scanning.nextByte_served (h : Scanning s) {b : Byte} {as : List ReadAnswer}
    (hopen : readBank s.regs.chanOpen c = true) (hreads : (feed c s).reads = .data b :: as) :
    ∃ t, exec .nextByte s = .next t ∧ Scanning t ∧ readBank t.regs.chanOpen c = true ∧
      servedBy t.regs c = servedBy s.regs c ∧
      if servedBy s.regs c s.regs.cursor then lastData t = b ∧ (feed c t).reads = as
      else (feed c t).reads = .data b :: as := by
  obtain ⟨b', u, t, hproduce, hexec, rfl, ht, -, -⟩ := h.nextByte
  refine ⟨_, hexec, ht, ?_⟩
  by_cases hserved : servedBy s.regs c s.regs.cursor = true
  · cases (produce_of_served s.regs.frame hserved hopen hreads).symm.trans hproduce
    have hconsumed : (feed c (requestRead c s)).reads = as := by
      rw [feed_requestRead, if_pos rfl, afterRead, hreads, List.tail_cons]
    rw [if_pos hserved]
    exact ⟨hopen, rfl, lastData_respond .ok b _, hconsumed⟩
  · obtain ⟨hopen', hfeed, hserves⟩ := produce_of_not_served hproduce hserved
    rw [if_neg hserved]
    exact ⟨hopen'.trans hopen, hserves, (congrArg ChannelFeed.reads hfeed).trans hreads⟩

/-- While open channel `c` has an octet for each of `n` NEXT_BYTE commands, its timeslots take them in order. -/
theorem Scanning.octetsServed_eq {bytes : List Byte} {rest : List ReadAnswer} (h : Scanning s)
    (hopen : readBank s.regs.chanOpen c = true) (hreads : (feed c s).reads = bytes.map .data ++ rest)
    (hn : n ≤ bytes.length) :
    ∃ t taken left, Machine.nextBytes n s = .next t ∧ readBank t.regs.chanOpen c = true ∧
      octetsServed s.regs c n s = taken ∧ bytes = taken ++ left ∧ (feed c t).reads = left.map .data ++ rest := by
  induction n generalizing s bytes with
  | zero => exact ⟨s, [], bytes, rfl, hopen, rfl, rfl, hreads⟩
  | succ n ih =>
    obtain _ | ⟨b, bytes⟩ := bytes
    · cases hn
    obtain ⟨u, hexec, hu, hopen', hserves, hstep⟩ := h.nextByte_served hopen hreads
    have hoctets (r : Regs) : octetsServed r c (n + 1) s =
        if servedBy r c s.regs.cursor then lastData u :: octetsServed r c n u else octetsServed r c n u := by
      unfold octetsServed
      rw [octets_succ hexec, List.filter_cons]
      split <;> rfl
    have hsame : octetsServed u.regs c n u = octetsServed s.regs c n u := by simp only [octetsServed, hserves]
    split at hstep
    · next hserved =>
      obtain ⟨rfl, hreads'⟩ := hstep
      obtain ⟨t, taken, left, hrun, hopen'', htaken, hbytes, hleft⟩ := ih hu hopen' hreads' (by simpa using hn)
      refine ⟨t, lastData u :: taken, left, (nextBytes_succ hexec n).trans hrun, hopen'', ?_, ?_, hleft⟩
      · rw [hoctets, if_pos hserved, ← hsame, htaken]
      · rw [hbytes, List.cons_append]
    · next hserved =>
      obtain ⟨t, taken, left, hrun, hopen'', htaken, hbytes, hleft⟩ :=
        ih (bytes := b :: bytes) hu hopen' hstep (Nat.le_of_succ_le hn)
      refine ⟨t, taken, left, (nextBytes_succ hexec n).trans hrun, hopen'', ?_, hbytes, hleft⟩
      rw [hoctets, if_neg hserved, ← hsame, htaken]

/-- Settles O40: the octets taken are the first of the channel's answers, and the rest are still to come. -/
theorem sharersReconstructTheirChannel : Obligations.SharersReconstructTheirChannel := by
  intro n s c bytes rest hrunning hassigned hopen hreads hn
  obtain ⟨t, taken, left, hrun, hopen', htaken, rfl, hleft⟩ :=
    Scanning.octetsServed_eq ⟨hrunning, hassigned⟩ hopen hreads hn
  refine ⟨t, hrun, ?_⟩
  change octetsServed s.regs c n s = (taken ++ left).take (octetsServed s.regs c n s).length ∧
    (feed c t).reads = ((taken ++ left).drop (octetsServed s.regs c n s).length).map .data ++ rest ∧ _
  rw [htaken, List.take_left, List.drop_left]
  exact ⟨rfl, hleft, hopen'⟩

end Sys2Proof.Machine
end

section
/-! At most one diagnostic of a timeslot between two resets (R180). A timeslot can still give one while it is EXT or
the engine is in CONFIG; the one degrade it can suffer in RUNNING spends it for good. -/

namespace Sys2Proof.Machine

variable {s t v : State} {u : Timeslot} {i : Instr} {status : Status}

/-- How many diagnostics timeslot `u` can still give before a reset. -/
def diagBudget (u : Timeslot) (s : State) : ℕ :=
  if s.regs.phase = .config ∨ readBank s.regs.mode u = .ext then 1 else 0

theorem diagBudget_le_one (u : Timeslot) (s : State) : diagBudget u s ≤ 1 := by
  unfold diagBudget
  split <;> omega

theorem diagBudget_of_config (hconfig : s.regs.phase = .config) : diagBudget u s = 1 := if_pos (.inl hconfig)

theorem diagBudget_congr (hphase : t.regs.phase = s.regs.phase) (hmode : t.regs.mode = s.regs.mode) :
    diagBudget u t = diagBudget u s := by
  rw [diagBudget, diagBudget, hphase, hmode]

/-- From `s` to `t` the diagnostics of `u` are paid for by its budget. -/
def Spends (u : Timeslot) (s t : State) : Prop :=
  ∃ es, t.env.trace = s.env.trace ++ es ∧ (es.filter (isDiagOf u)).length + diagBudget u t ≤ diagBudget u s

theorem Spends.trans (hst : Spends u s t) (htv : Spends u t v) : Spends u s v := by
  obtain ⟨es, ht, hes⟩ := hst
  obtain ⟨fs, hv, hfs⟩ := htv
  refine ⟨es ++ fs, by rw [hv, ht, List.append_assoc], ?_⟩
  rw [List.filter_append, List.length_append]
  omega

/-- A change without a diagnostic that does not raise the budget. -/
theorem Spends.of_quiet {es : List Event} (htrace : t.env.trace = s.env.trace ++ es)
    (hquiet : es.filter (isDiagOf u) = []) (hbudget : diagBudget u t ≤ diagBudget u s) : Spends u s t :=
  ⟨es, htrace, by simpa [hquiet] using hbudget⟩

theorem Spends.of_same (htrace : t.env.trace = s.env.trace) (hphase : t.regs.phase = s.regs.phase)
    (hmode : t.regs.mode = s.regs.mode) : Spends u s t :=
  .of_quiet (es := []) (by simp [htrace]) rfl (diagBudget_congr hphase hmode).le

theorem Spends.refl (u : Timeslot) (s : State) : Spends u s s := .of_same rfl rfl rfl

theorem spends_emit {e : Event} (he : isDiagOf u e = false) (s : State) : Spends u s (emit e s) :=
  .of_quiet rfl (by simp [he]) le_rfl

/-- In CONFIG nothing can raise the budget. -/
theorem Spends.of_config {es : List Event} (hconfig : s.regs.phase = .config)
    (htrace : t.env.trace = s.env.trace ++ es) (hquiet : es.filter (isDiagOf u) = []) : Spends u s t :=
  .of_quiet htrace hquiet ((diagBudget_le_one u t).trans (diagBudget_of_config hconfig).ge)

/-! ### What spends: the degrade alone -/

theorem spends_requestRead (c : ChannelId) (s : State) : Spends u s (requestRead c s) := .of_quiet rfl rfl le_rfl

/-- The degrade of an EXT timeslot in RUNNING gives one diagnostic and leaves that timeslot without a budget
(R178, R179). -/
theorem spends_degrade {ts : Timeslot} (c : ChannelId) (reason : DiagReason) (hrunning : s.regs.phase = .running)
    (hext : readBank s.regs.mode ts = .ext) : Spends u s (degrade ts c reason s).2 := by
  rw [degrade_eq]
  refine ⟨_, List.append_assoc .., ?_⟩
  have hcloses : ((if readBank s.regs.chanOpen c then [Event.chanClose c] else []).filter (isDiagOf u)) = [] := by
    split <;> rfl
  rw [List.filter_append, hcloses, List.nil_append]
  by_cases hu : ts = u
  · subst hu
    simp [diagBudget, hrunning, hext, isDiagOf]
  · simp [diagBudget, hrunning, isDiagOf, hu, readBank_writeBank_ne _ _ hu]

theorem spends_extOctet {ts : Timeslot} (hrunning : s.regs.phase = .running) (hext : readBank s.regs.mode ts = .ext) :
    Spends u s (extOctet ts s).2 := by
  obtain ⟨b, he, -, -⟩ | ⟨reason, s₁, he, hs₁⟩ := extOctet_cases ts s
  · rw [he]
    exact spends_requestRead _ s
  · rw [he]
    obtain ⟨rfl, -⟩ | ⟨rfl, -⟩ := hs₁
    · exact spends_degrade _ _ hrunning hext
    · exact (spends_requestRead _ s).trans (spends_degrade _ _ hrunning hext)

theorem spends_produce {ts : Timeslot} {f : FrameCount} {b : Byte} (hrunning : s.regs.phase = .running)
    (hproduce : produce ts f s = .ok (b, t)) : Spends u s t := by
  by_cases hext : readBank s.regs.mode ts = .ext
  · have hoctet : extOctet ts s = (b, t) := by
      rw [produce_ext f hext] at hproduce
      injection hproduce
    simpa [hoctet] using spends_extOctet (u := u) hrunning hext
  · rw [produce_of_not_ext hproduce hext]
    exact .refl u s

/-! ### Every step spends -/

theorem filter_isDiagOf_opens_closes (u : Timeslot) (cs : List ChannelId) :
    (cs.map fun c => Event.chanOpen c .ok).filter (isDiagOf u) = [] ∧
      (cs.map Event.chanClose).filter (isDiagOf u) = [] := by
  constructor <;> simp [List.filter_eq_nil_iff, isDiagOf]

theorem Work.spends (hwork : Work i s status t) : Spends u s t := by
  cases hwork with
  | outOfPhase | inFailed | read => exact .refl u s
  | setStructure _ hconfig | setFraming _ _ hconfig | setSilence _ hconfig | bind _ _ hconfig
  | bindRange _ _ hconfig | bindDup _ _ hconfig =>
    exact .of_config (es := []) hconfig (List.append_nil _).symm rfl
  | init hconfig hok =>
    obtain ⟨-, -, -, -, htrace⟩ := openAll_eq _ s (nodup_boundChannels s.regs) hok
    obtain ⟨-, henv⟩ := initialised_env s
    exact .of_config hconfig ((congrArg Env.trace henv).trans htrace) (filter_isDiagOf_opens_closes u _).1
  | @initOpen before after c _ hconfig hbound hok =>
    have hnodup := nodup_boundChannels s.regs
    rw [hbound, List.nodup_append] at hnodup
    obtain ⟨-, -, -, -, htrace⟩ := openAll_eq before s hnodup.1 hok
    obtain ⟨hopens, hcloses⟩ := filter_isDiagOf_opens_closes u before
    refine .of_config (es := before.map (fun d => .chanOpen d .ok) ++
      [.chanOpen c (openAnswer c (openAll before s))] ++ before.map .chanClose) hconfig ?_ ?_
    · simp [enterFailed, closeAll_eq, htrace]
    · simp [List.filter_append, hopens, hcloses, isDiagOf]
  | nextByte hrunning hproduce => exact (spends_produce hrunning hproduce).trans (.of_same rfl rfl rfl)

theorem executeWord_spends {w : CommandWord} (h : executeWord w s = .next t) : Spends u s t := by
  obtain ⟨i, -, status, data, v, hwork, rfl⟩ | rfl := executeWord_answers h
  · exact hwork.spends.trans (spends_emit rfl v)
  · exact spends_emit rfl s

theorem step_spends (hnoReset : ¬ resets s) (h : step s = .next t) : Spends u s t := by
  obtain ⟨-, rfl⟩ | ⟨rest, hin, -⟩ | ⟨w, rest, -, hword⟩ := step_cases h
  · exact .refl u t
  · exact absurd (by simp [resets, hin]) hnoReset
  · have haccept : Spends u s (acceptCommand w (dropInput s)) := .of_quiet (es := [.cmd w]) rfl rfl le_rfl
    exact haccept.trans (executeWord_spends hword)

/-! ### Runs -/

/-- A step takes the first input, if there is one. -/
theorem step_inputs (h : step s = .next t) : t.env.inputs = s.env.inputs.tail := by
  obtain ⟨hin, rfl⟩ | ⟨rest, -, rfl⟩ | ⟨w, rest, -, hword⟩ := step_cases h
  · simp [hin]
  · simp [applyReset_eq]
  · exact (executeWord_keeps_roms_inputs hword).2

theorem core_run_succ {n : ℕ} (h : core.run (n + 1) s = .next t) :
    ∃ v, step s = .next v ∧ core.run n v = .next t := by
  simp only [Host.Core.run] at h
  split at h
  · next v hv => exact ⟨v, hv, h⟩
  · cases h
  · cases h

theorem run_spends (n : ℕ) (hnoReset : HostInput.reset ∉ s.env.inputs) (h : core.run n s = .next t) :
    Spends u s t := by
  induction n generalizing s with
  | zero =>
    cases h
    exact .refl u _
  | succ n ih =>
    obtain ⟨v, hv, hrun⟩ := core_run_succ h
    have hfirst : ¬ resets s := fun hreset => hnoReset (List.mem_of_mem_head? hreset)
    have hrest : HostInput.reset ∉ v.env.inputs := by
      rw [step_inputs hv]
      exact fun hmem => hnoReset (List.mem_of_mem_tail hmem)
    exact (step_spends hfirst hv).trans (ih hrest hrun)

/-- Settles O41: the budget is at most one from the start, and the run's diagnostics are paid for by it. -/
theorem atMostOneDiagnosticBetweenResets : Obligations.AtMostOneDiagnosticBetweenResets := by
  intro n s t u hnoReset h
  obtain ⟨es, htrace, hes⟩ := run_spends (u := u) n hnoReset h
  have hone := diagBudget_le_one u s
  exact ⟨es, htrace, by omega⟩

end Sys2Proof.Machine
end

section
/-! What two registers cannot influence: `R.CRC4_REQ` (R36), and which of the codes 1 and 2 `R.STRUCTURE` holds
(R202). Commands commute with an overlay of the two registers, except for the command that writes the one overlaid. -/

namespace Sys2Proof.Machine

variable {s : State} {f : Bool → Bool} {g : BitVec 2 → BitVec 2}

/-- `s` with `R.CRC4_REQ` and `R.STRUCTURE` replaced by functions of themselves. -/
def overlay (f : Bool → Bool) (g : BitVec 2 → BitVec 2) (s : State) : State :=
  { s with regs := { s.regs with crc4Req := f s.regs.crc4Req, structureMode := g s.regs.structureMode } }

theorem withCrc4Req_eq_overlay (b : Bool) : withCrc4Req b = overlay (fun _ => b) id := rfl

/-- The overlay does not make a structured engine unstructured, nor the reverse. -/
def KeepsStructured (g : BitVec 2 → BitVec 2) (s : State) : Prop :=
  g s.regs.structureMode = 0#2 ↔ s.regs.structureMode = 0#2

/-! ### Commands commute with an overlay -/

theorem respond_overlay (status : Status) (data : Byte) (s : State) :
    respond status data (overlay f g s) = mapNext (overlay f g) (respond status data s) := rfl

theorem inPhase_overlay {p : Phase} {body : State → Result}
    (hbody : s.regs.phase = p → body (overlay f g s) = mapNext (overlay f g) (body s)) :
    inPhase p body (overlay f g s) = mapNext (overlay f g) (inPhase p body s) := by
  obtain ⟨hfailed, he⟩ | ⟨hfailed, hp, he⟩ | ⟨hfailed, hp, he⟩ := inPhase_cases (p := p) (body := body) s
  · rw [he, inPhase_failed (s := overlay f g s) hfailed, respond_overlay]
  · rw [he, inPhase_wrong (s := overlay f g s) hp hfailed, respond_overlay]
  · rw [he, inPhase_admitted (s := overlay f g s) hp (hp ▸ hfailed), hbody hp]

theorem openAll_overlay (cs : List ChannelId) (s : State) :
    openAll cs (overlay f g s) = overlay f g (openAll cs s) := by
  induction cs generalizing s with
  | nil => rfl
  | cons c cs ih => exact ih (setChanOpen c true (requestOpen c s))

theorem closeAll_overlay (cs : List ChannelId) (s : State) :
    closeAll cs (overlay f g s) = overlay f g (closeAll cs s) := by
  rw [closeAll_eq, closeAll_eq]
  rfl

/-- The modes INIT assigns depend on the structure only in whether it is 0 (R246). -/
theorem assignedMode_overlay (hg : KeepsStructured g s) : assignedMode (overlay f g s).regs = assignedMode s.regs := by
  funext ts
  unfold KeepsStructured at hg
  simp only [assignedMode, overlay, ne_eq, hg]

theorem assignModes_overlay (hg : KeepsStructured g s) :
    assignModes (overlay f g s) = overlay f g (assignModes s) := by
  rw [assignModes_eq, assignModes_eq, assignedMode_overlay hg]
  rfl

theorem keepsStructured_openAll (hg : KeepsStructured g s) (cs : List ChannelId) : KeepsStructured g (openAll cs s) := by
  unfold KeepsStructured
  rw [openAll_regs]
  exact hg

theorem initialised_overlay (hg : KeepsStructured g s) : initialised (overlay f g s) = overlay f g (initialised s) := by
  change startRunning (assignModes (openAll (boundChannels s.regs) (overlay f g s))) = _
  rw [openAll_overlay, assignModes_overlay (keepsStructured_openAll hg _)]
  rfl

theorem execInit_overlay (hg : KeepsStructured g s) :
    exec .init (overlay f g s) = mapNext (overlay f g) (exec .init s) := by
  by_cases hconfig : s.regs.phase = .config
  · have hconfig' : (overlay f g s).regs.phase = .config := hconfig
    obtain ⟨hok, he⟩ | ⟨before, c, after, hbound, hok, hfail, he⟩ := initWork_cases s hconfig
    · rw [he, execInit_opened hconfig' hok, initialised_overlay hg]
      rfl
    · rw [he, execInit_failed hconfig' hbound hok hfail, openAll_overlay]
      exact congrArg (fatal .errOpen) (closeAll_overlay before (requestOpen c (openAll before s)))
  · change execInit _ = mapNext _ (execInit s)
    unfold execInit
    exact inPhase_overlay fun h => absurd h hconfig

theorem degrade_overlay (ts : Timeslot) (c : ChannelId) (reason : DiagReason) (s : State) :
    degrade ts c reason (overlay f g s) = (degrade ts c reason s).map id (overlay f g) := by
  rw [degrade_eq, degrade_eq]
  rfl

theorem extOctet_overlay (ts : Timeslot) (s : State) :
    extOctet ts (overlay f g s) = (extOctet ts s).map id (overlay f g) := by
  cases hopen : readBank s.regs.chanOpen (readBank s.regs.bindChan ts)
  · rw [extOctet_closed ts s hopen, extOctet_closed ts (overlay f g s) hopen]
    exact degrade_overlay ..
  · cases hanswer : readAnswer (readBank s.regs.bindChan ts) s with
    | data b =>
      rw [extOctet_data ts s hopen hanswer, extOctet_data ts (overlay f g s) hopen hanswer]
      rfl
    | ended reason =>
      rw [extOctet_ended ts s hopen hanswer, extOctet_ended ts (overlay f g s) hopen hanswer]
      exact degrade_overlay ts _ _ (requestRead (readBank s.regs.bindChan ts) s)

theorem produce_overlay (ts : Timeslot) (frame : FrameCount) (s : State) :
    produce ts frame (overlay f g s) = (produce ts frame s).map fun p => p.map id (overlay f g) := by
  cases hmode : readBank s.regs.mode ts with
  | unbound => rw [produce_unbound frame hmode, produce_unbound (s := overlay f g s) frame hmode]; rfl
  | silence => rw [produce_silence frame hmode, produce_silence (s := overlay f g s) frame hmode]; rfl
  | sync => rw [produce_sync frame hmode, produce_sync (s := overlay f g s) frame hmode]; rfl
  | ext =>
    rw [produce_ext frame hmode, produce_ext (s := overlay f g s) frame hmode, extOctet_overlay]
    rfl

theorem execNextByte_overlay (s : State) :
    exec .nextByte (overlay f g s) = mapNext (overlay f g) (exec .nextByte s) := by
  change execNextByte _ = mapNext _ (execNextByte s)
  have hproduce : produce (overlay f g s).regs.cursor (overlay f g s).regs.frame (overlay f g s) =
      (produce s.regs.cursor s.regs.frame s).map fun p => p.map id (overlay f g) := produce_overlay _ _ s
  unfold execNextByte
  refine inPhase_overlay fun _ => ?_
  rw [hproduce]
  cases produce s.regs.cursor s.regs.frame s <;> rfl

theorem execBind_overlay (ts : BitVec 8) (chan : ChannelId) (s : State) :
    exec (.bind ts chan) (overlay f g s) = mapNext (overlay f g) (exec (.bind ts chan) s) := by
  rw [exec_bind, exec_bind]
  refine inPhase_overlay fun _ => ?_
  have hbound : (overlay f g s).regs.bindValid = s.regs.bindValid := rfl
  rw [hbound]
  split
  · split <;> rfl
  · rfl

/-- A command commutes with an overlay that leaves alone what the command itself writes. -/
theorem exec_overlay {i : Instr} (hcrc : ∀ frm crc4, i = .setFraming frm crc4 → f crc4 = crc4)
    (hstruct : ∀ struct, i = .setStructure struct → g struct = struct) (hg : KeepsStructured g s) :
    exec i (overlay f g s) = mapNext (overlay f g) (exec i s) := by
  cases i with
  | setStructure struct =>
    rw [exec_setStructure, exec_setStructure]
    refine inPhase_overlay fun _ => ?_
    rw [← respond_overlay, overlay, overlay, hstruct struct rfl]
  | setFraming frm crc4 =>
    rw [exec_setFraming, exec_setFraming]
    refine inPhase_overlay fun _ => ?_
    rw [← respond_overlay, overlay, overlay, hcrc frm crc4 rfl]
  | setSilence sil =>
    rw [exec_setSilence, exec_setSilence]
    exact inPhase_overlay fun _ => rfl
  | bind ts chan => exact execBind_overlay ts chan s
  | init => exact execInit_overlay hg
  | nextByte => exact execNextByte_overlay s
  | readStatus | readCursor | readFrame | readTsMode => rfl

/-! ### Steps that differ in an overlaid register alone -/

variable {hide : State → State} {o : Result}

theorem mapNext_mapNext (k : State → State) (h : ∀ u, hide (k u) = hide u) :
    mapNext hide (mapNext k o) = mapNext hide o := by
  cases o with
  | next u => exact congrArg Host.Outcome.next (h u)
  | fault r => rfl
  | refused r => rfl

/-- If what is overlaid is hidden, and each command's outcome is the same but for what is hidden, so is the step's. -/
theorem step_overlay (hhide : ∀ u, hide (overlay f g u) = hide u)
    (hexec : ∀ i u, u.regs = s.regs → mapNext hide (exec i (overlay f g u)) = mapNext hide (exec i u)) :
    mapNext hide (step (overlay f g s)) = mapNext hide (step s) := by
  by_cases hrom : alignRomLegal s.roms.align = true
  · have hrom' : alignRomLegal (overlay f g s).roms.align = true := hrom
    cases hin : s.env.inputs with
    | nil =>
      rw [step_idle hrom hin, step_idle hrom' hin]
      exact congrArg Host.Outcome.next (hhide s)
    | cons input rest =>
      have hin' : (overlay f g s).env.inputs = input :: rest := hin
      cases input with
      | reset =>
        rw [step_reset hrom hin, step_reset hrom' hin', applyReset_eq, applyReset_eq]
        rfl
      | command w =>
        rw [step_command hrom hin, step_command hrom' hin']
        cases hdec : decode w with
        | ok i =>
          rw [executeWord_of_decode_ok hdec, executeWord_of_decode_ok hdec]
          exact hexec i (acceptCommand w (dropInput s)) rfl
        | error r =>
          rw [executeWord_of_decode_error hdec, executeWord_of_decode_error hdec]
          exact congrArg Host.Outcome.next (hhide (emit _ (acceptCommand w (dropInput s))))
  · rw [step_of_illegalAlignRom hrom, step_of_illegalAlignRom (s := overlay f g s) hrom]

/-- A command that writes the hidden register does the same from both states, or is refused in both. -/
theorem inPhase_hidden {p : Phase} {body : State → Result} (hhide : ∀ u, hide (overlay f g u) = hide u)
    (hbody : body (overlay f g s) = body s) :
    mapNext hide (inPhase p body (overlay f g s)) = mapNext hide (inPhase p body s) := by
  obtain ⟨hfailed, he⟩ | ⟨hfailed, hp, he⟩ | ⟨hfailed, hp, he⟩ := inPhase_cases (p := p) (body := body) s
  · rw [he, inPhase_failed (s := overlay f g s) hfailed, respond_overlay, mapNext_mapNext _ hhide]
  · rw [he, inPhase_wrong (s := overlay f g s) hp hfailed, respond_overlay, mapNext_mapNext _ hhide]
  · rw [he, inPhase_admitted (s := overlay f g s) hp (hp ▸ hfailed), hbody]

/-- Settles O58: SET_FRAMING writes the request whatever it was, and every other command carries it along. -/
theorem crcRequestHasNoEffect : Obligations.CrcRequestHasNoEffect := by
  intro s b
  rw [withCrc4Req_eq_overlay b]
  have hhide (u : State) : withCrc4Req false (overlay (fun _ => b) id u) = withCrc4Req false u := rfl
  refine step_overlay hhide fun i u _ => ?_
  by_cases hi : ∃ frm crc4, i = .setFraming frm crc4
  · obtain ⟨frm, crc4, rfl⟩ := hi
    rw [exec_setFraming, exec_setFraming]
    exact inPhase_hidden hhide rfl
  · rw [exec_overlay (g := id) (fun frm crc4 h => absurd ⟨frm, crc4, h⟩ hi) (fun _ _ => rfl) Iff.rfl,
      mapNext_mapNext _ hhide]

/-- Settles O59: SET_STRUCTURE writes the structure whatever it was, and every other command carries it along, as
neither code is 0. -/
theorem pcm31AndPcm30BehaveAlike : Obligations.Pcm31AndPcm30BehaveAlike := by
  intro s
  have htwo : withStructure 2#2 s = overlay id (fun _ => 2#2) (withStructure 1#2 s) := rfl
  have hhide (u : State) : withStructure 0#2 (overlay id (fun _ => 2#2) u) = withStructure 0#2 u := rfl
  rw [htwo]
  refine (step_overlay hhide fun i u hu => ?_).symm
  by_cases hi : ∃ struct, i = .setStructure struct
  · obtain ⟨struct, rfl⟩ := hi
    rw [exec_setStructure, exec_setStructure]
    exact inPhase_hidden hhide rfl
  · have hstructured : KeepsStructured (fun _ => 2#2) u := by
      unfold KeepsStructured
      rw [hu]
      simp [withStructure]
    rw [exec_overlay (f := id) (fun _ _ _ => rfl) (fun struct h => absurd ⟨struct, h⟩ hi) hstructured,
      mapNext_mapNext _ hhide]

end Sys2Proof.Machine
end
